-- ==== Sys2Proof/Word.lean ====
section
/-! DEFINITION. The word types and the two small name types every layer uses: a 32-bit register word, a byte, the
colour of a drawing command (10 R27) and the two internal RAMs (10 R34, R35). -/

namespace Sys2Proof

/-- A host-visible register, 32 bits (10_state.md section 2). -/
abbrev Word := BitVec 32

/-- The smallest unit of FB, STAGE and the bus (20 R50). -/
abbrev Byte := BitVec 8

/-- Colour (10 R27): White is command bit 1 and means set, Black is 0 and means clear. -/
inductive Color where
  | black
  | white
deriving DecidableEq, Repr, Inhabited

/-- The internal RAMs the engine and the host windows reach (00 R11, 20 R50). -/
inductive Space where
  | fb
  | stage
deriving DecidableEq, Repr, Inhabited

end Sys2Proof
end

