-- ==== Sys2Proof/Syntax.lean ====
section
/-! DEFINITION. The 27 commands of 30 R75, one constructor per row of spec/opcode_table.json, in the table's order.
The arguments are the fields the command word admits (30 R71, R72): C as a colour, F as a font slot, Q as a bit.
Operands are not syntax: the engine reads them from the latched ARG registers (30 R73, R74). -/

namespace Sys2Proof

/-- A command word that decoded (30 R75). -/
inductive Instr where
  | nop
  | busInit (duty : Bool)
  | transmit
  | receive
  | isDeviceReady
  | dispInit
  | fill (c : Color)
  | clear
  | updateScreen
  | gotoXY
  | putc (c : Color) (slot : Nat)
  | puts (c : Color) (slot : Nat)
  | toggleInvert
  | invertDisplay (flag : Bool)
  | scrollRight
  | scrollLeft
  | scrollDiagRight
  | scrollDiagLeft
  | stopScroll
  | drawPixel (c : Color)
  | drawLine (c : Color)
  | drawRect (c : Color)
  | drawFilledRect (c : Color)
  | drawTriangle (c : Color)
  | drawCircle (c : Color)
  | drawFilledCircle (c : Color)
  | drawBitmap (c : Color)
deriving DecidableEq, Repr

end Sys2Proof
end

