-- ==== Sys2Proof/WellFormed.lean ====
section
/-! DEFINITION. Which terms of `Instr` a command word can hold: the one field that is a number is the font slot of
PUTC and PUTS, two bits wide (30 R71: "font slot 0..3"). -/

namespace Sys2Proof

/-- The font slot field F is bits 10:9 of the word, so 0..3 (30 R71, 10 R38). -/
def slotOk (slot : Nat) : Bool := decide (slot < 4)

/-- An instruction the 32-bit command word can encode. -/
def Instr.wf : Instr → Bool
  | .nop => true
  | .busInit _ => true
  | .transmit => true
  | .receive => true
  | .isDeviceReady => true
  | .dispInit => true
  | .fill _ => true
  | .clear => true
  | .updateScreen => true
  | .gotoXY => true
  | .putc _ slot => slotOk slot
  | .puts _ slot => slotOk slot
  | .toggleInvert => true
  | .invertDisplay _ => true
  | .scrollRight => true
  | .scrollLeft => true
  | .scrollDiagRight => true
  | .scrollDiagLeft => true
  | .stopScroll => true
  | .drawPixel _ => true
  | .drawLine _ => true
  | .drawRect _ => true
  | .drawFilledRect _ => true
  | .drawTriangle _ => true
  | .drawCircle _ => true
  | .drawFilledCircle _ => true
  | .drawBitmap _ => true

end Sys2Proof
end

