-- ==== Sys2Proof/Decode.lean ====
section
/-! DEFINITION. Decoding of a command word (30 R70..R77) and, after it, the encoder. The opcode map of 30 R75 is a list
of rows, each an OP, a format and a reader of the admitted fields; a word selects the row with
`(w & mask) == match` (30 R76). A word that selects none is rejected by name (30 R77). -/

namespace Sys2Proof

/-- The formats of 30 R72. -/
inductive Format where
  | n
  | c
  | cf
  | q
deriving DecidableEq, Repr

/-- The bits that must equal the match (30 R72). -/
def Format.mask : Format → Word
  | .n => 0xFFFFFFFF#32
  | .c => 0xFFFFFEFF#32
  | .cf => 0xFFFFF8FF#32
  | .q => 0xFFFFF7FF#32

/-- Field OP, bits 7:0 (30 R71). -/
def fieldOp (w : Word) : Byte := w.extractLsb' 0 8

/-- Field C, bit 8 (30 R71, 10 R27). -/
def fieldC (w : Word) : Color := if w.getLsbD 8 then .white else .black

/-- Field F, bits 10:9 (30 R71). -/
def fieldF (w : Word) : Nat := (w.extractLsb' 9 2).toNat

/-- Field Q, bit 11 (30 R71). -/
def fieldQ (w : Word) : Bool := w.getLsbD 11

/-- One row of the opcode map (30 R75). -/
structure Row where
  op : Byte
  format : Format
  read : Word → Instr

/-- The match of a row: its OP in bits 7:0 and zero elsewhere (30 R75). -/
def Row.matchWord (r : Row) : Word := r.op.setWidth 32

/-- `(w & mask) == match` (30 R76). -/
def Row.selects (r : Row) (w : Word) : Bool := (w &&& r.format.mask) == r.matchWord

/-- The BusDriver rows of 30 R75. -/
def busRows : List Row :=
  [⟨0x00, .n, fun _ => .nop⟩,
   ⟨0x01, .q, fun w => .busInit (fieldQ w)⟩,
   ⟨0x02, .n, fun _ => .transmit⟩,
   ⟨0x03, .n, fun _ => .receive⟩,
   ⟨0x04, .n, fun _ => .isDeviceReady⟩]

/-- The DisplayController rows of 30 R75. -/
def displayRows : List Row :=
  [⟨0x10, .n, fun _ => .dispInit⟩,
   ⟨0x11, .c, fun w => .fill (fieldC w)⟩,
   ⟨0x12, .n, fun _ => .clear⟩,
   ⟨0x13, .n, fun _ => .updateScreen⟩,
   ⟨0x14, .n, fun _ => .gotoXY⟩,
   ⟨0x15, .cf, fun w => .putc (fieldC w) (fieldF w)⟩,
   ⟨0x16, .cf, fun w => .puts (fieldC w) (fieldF w)⟩,
   ⟨0x17, .n, fun _ => .toggleInvert⟩,
   ⟨0x18, .q, fun w => .invertDisplay (fieldQ w)⟩,
   ⟨0x19, .n, fun _ => .scrollRight⟩,
   ⟨0x1A, .n, fun _ => .scrollLeft⟩,
   ⟨0x1B, .n, fun _ => .scrollDiagRight⟩,
   ⟨0x1C, .n, fun _ => .scrollDiagLeft⟩,
   ⟨0x1D, .n, fun _ => .stopScroll⟩]

/-- The GraphicsEngine rows of 30 R75. -/
def graphicsRows : List Row :=
  [⟨0x20, .c, fun w => .drawPixel (fieldC w)⟩,
   ⟨0x21, .c, fun w => .drawLine (fieldC w)⟩,
   ⟨0x22, .c, fun w => .drawRect (fieldC w)⟩,
   ⟨0x23, .c, fun w => .drawFilledRect (fieldC w)⟩,
   ⟨0x24, .c, fun w => .drawTriangle (fieldC w)⟩,
   ⟨0x25, .c, fun w => .drawCircle (fieldC w)⟩,
   ⟨0x26, .c, fun w => .drawFilledCircle (fieldC w)⟩,
   ⟨0x27, .c, fun w => .drawBitmap (fieldC w)⟩]

/-- The 27 rows in the source's order (30 R75). -/
def opcodeRows : List Row := busRows ++ displayRows ++ graphicsRows

/-- Why a word is illegal (30 R77). -/
inductive Reject where
  /-- Its OP is not in 30 R75. -/
  | unassignedOp
  /-- It has a nonzero bit outside the admitted fields of its OP. -/
  | strayBits
deriving DecidableEq, Repr

/-- The command a word stands for, or why it is illegal (30 R76, R77). -/
def decode (w : Word) : Except Reject Instr :=
  match opcodeRows.find? (fun r => r.selects w) with
  | some r => .ok (r.read w)
  | none => if opcodeRows.any (fun r => r.op == fieldOp w) then .error .strayBits else .error .unassignedOp

/-- The decoder on the bits of a table row: bit 0 of `w` is bit 0 of the command word, and bits from `nbits` up are
0. A command is exactly one 32-bit word (30 R70), so a longer row has no reading. -/
def decodeTableWord (nbits w : Nat) : Option Instr :=
  if nbits ≤ 32 then (decode (BitVec.ofNat 32 (w % 2 ^ nbits))).toOption else none

/-- Bit C of the word (30 R71). -/
def bitC : Color → Word
  | .black => 0#32
  | .white => 0x100#32

/-- Field F of the word (30 R71). -/
def bitsF (slot : Nat) : Word := BitVec.ofNat 32 slot <<< 9

/-- Bit Q of the word (30 R71). -/
def bitQ : Bool → Word
  | false => 0#32
  | true => 0x800#32

/-- The command word of an instruction (30 R71, R75). -/
def encode : Instr → Word
  | .nop => 0x00#32
  | .busInit q => 0x01#32 ||| bitQ q
  | .transmit => 0x02#32
  | .receive => 0x03#32
  | .isDeviceReady => 0x04#32
  | .dispInit => 0x10#32
  | .fill c => 0x11#32 ||| bitC c
  | .clear => 0x12#32
  | .updateScreen => 0x13#32
  | .gotoXY => 0x14#32
  | .putc c f => 0x15#32 ||| bitC c ||| bitsF f
  | .puts c f => 0x16#32 ||| bitC c ||| bitsF f
  | .toggleInvert => 0x17#32
  | .invertDisplay q => 0x18#32 ||| bitQ q
  | .scrollRight => 0x19#32
  | .scrollLeft => 0x1A#32
  | .scrollDiagRight => 0x1B#32
  | .scrollDiagLeft => 0x1C#32
  | .stopScroll => 0x1D#32
  | .drawPixel c => 0x20#32 ||| bitC c
  | .drawLine c => 0x21#32 ||| bitC c
  | .drawRect c => 0x22#32 ||| bitC c
  | .drawFilledRect c => 0x23#32 ||| bitC c
  | .drawTriangle c => 0x24#32 ||| bitC c
  | .drawCircle c => 0x25#32 ||| bitC c
  | .drawFilledCircle c => 0x26#32 ||| bitC c
  | .drawBitmap c => 0x27#32 ||| bitC c

/-- The format of an instruction's row (30 R72, R75). -/
def Instr.format : Instr → Format
  | .nop => .n
  | .busInit _ => .q
  | .transmit => .n
  | .receive => .n
  | .isDeviceReady => .n
  | .dispInit => .n
  | .fill _ => .c
  | .clear => .n
  | .updateScreen => .n
  | .gotoXY => .n
  | .putc _ _ => .cf
  | .puts _ _ => .cf
  | .toggleInvert => .n
  | .invertDisplay _ => .q
  | .scrollRight => .n
  | .scrollLeft => .n
  | .scrollDiagRight => .n
  | .scrollDiagLeft => .n
  | .stopScroll => .n
  | .drawPixel _ => .c
  | .drawLine _ => .c
  | .drawRect _ => .c
  | .drawFilledRect _ => .c
  | .drawTriangle _ => .c
  | .drawCircle _ => .c
  | .drawFilledCircle _ => .c
  | .drawBitmap _ => .c

/-- The bits a word of the format must have clear beyond OP: the complement of the fields it admits (30 R72). -/
def Format.admitted : Format → Word
  | .n => 0x00000000#32
  | .c => 0x00000100#32
  | .cf => 0x00000700#32
  | .q => 0x00000800#32

end Sys2Proof
end

