-- ==== Sys2Proof/Machine/Inputs.lean ====
section
/-! DEFINITION. What the agents outside the engine hand to the CORE (00 R12), as plain data: the answers of the bus
environment (10 R36), the host's accesses (20 R51..R55), and the events whose order is a run of the machine. -/

namespace Sys2Proof.Machine

/-- One answer of ENV to one poll (10 R36). `nothing` is "or nothing"; an answer that the polled phase cannot get
counts as nothing there (DESIGN CHOICE, log 12: safe). -/
inductive Answer where
  | nothing
  | idle
  | busy
  | startDone
  | ack
  | nack
  | byteDone
  | byteIn (v : Byte)
  | stopDone
deriving DecidableEq, Repr, Inhabited

/-- The width of a host access (20 R52, R53). -/
inductive Width where
  | b8
  | b16
  | b32
deriving DecidableEq, Repr, Inhabited

/-- The direction recorded with a host protocol violation (60 R171). -/
inductive Dir where
  | read
  | write
deriving DecidableEq, Repr, Inhabited

/-- One access to the register block, at a byte offset in it (20 R51). A write narrower than 32 bits uses the value's
low bits. -/
inductive HostOp where
  | read (off : BitVec 12) (w : Width)
  | write (off : BitVec 12) (w : Width) (v : Word)
deriving DecidableEq, Repr, Inhabited

/-- One host access, at a platform address (20 R51, 60 R182). The spec gives platform addresses no width, so they are
numbers (log 15). -/
inductive HostAccess where
  | read (addr : Nat) (w : Width)
  | write (addr : Nat) (w : Width) (v : Word)
deriving DecidableEq, Repr, Inhabited

/-- One step of one agent (00 R12): the host's next access, one engine step, one tick, or a power-on reset
(70 R190). ENV answers inside an engine step and has no event of its own. -/
inductive Event where
  | host (acc : HostAccess)
  | engine
  | tick
  | reset
deriving DecidableEq, Repr, Inhabited

end Sys2Proof.Machine
end

