-- ==== Sys2Proof/Config.lean ====
section
/-! DEFINITION. What is fixed for one CORE and what is left open. The spec's OPEN parameters (00 R8) are fields of
`Params`; the machine runs with `Config.params`, an opaque constant, so no proof can lean on a value the spec does
not give (log 4). The free draws (93 section 1) are opaque functions of a draw number. Values the spec fixes are
plain definitions. -/

namespace Sys2Proof

/-- A present font (10 R38): width `fwLess + 1`, height `fhLess + 1`, so that `1 <= fw <= W` and `1 <= fh <= H`
hold by construction (00 R9, log 21), and the bytes of each glyph in the format of 42 R162. -/
structure Font where
  fwLess : Fin 128
  fhLess : Fin 64
  glyph : Byte → Nat → Byte
deriving Inhabited

/-- Glyph width in pixels. -/
def Font.fw (f : Font) : Nat := f.fwLess.val + 1

/-- Glyph height in pixels. -/
def Font.fh (f : Font) : Nat := f.fhLess.val + 1

/-- The tick a phase budget is measured from (40 R98). -/
inductive TimeoutOrigin where
  | phaseStart
  | transactionStart
deriving DecidableEq, Repr, Inhabited

/-- One named step of the initialisation sequence: a command byte, then its argument bytes (41 R123). -/
structure InitGroup where
  command : Byte
  args : List Byte
deriving DecidableEq, Repr, Inhabited

/-- The nine groups G1..G9 of INIT_SEQ, under the source's names (41 R123). -/
structure InitSeq where
  displayOff : InitGroup
  clockDivide : InitGroup
  multiplexRatio : InitGroup
  displayOffset : InitGroup
  chargePump : InitGroup
  segmentRemap : InitGroup
  comPins : InitGroup
  contrast : InitGroup
  displayOn : InitGroup
deriving DecidableEq, Repr, Inhabited

/-- The bytes of one group in order. -/
def InitGroup.bytes (g : InitGroup) : List Byte := g.command :: g.args

/-- INIT_SEQ as bytes: groups G1..G9 in the source's order, bytes in order (41 R123). -/
def InitSeq.bytes (q : InitSeq) : List Byte :=
  [q.displayOff, q.clockDivide, q.multiplexRatio, q.displayOffset, q.chargePump, q.segmentRemap, q.comPins,
    q.contrast, q.displayOn].flatMap InitGroup.bytes

/-- An item of a scroll template: a byte, or a placeholder for START_ROW or END_ROW (41 R133). -/
inductive TemplateItem where
  | byte (b : Byte)
  | startRow
  | endRow
deriving DecidableEq, Repr, Inhabited

/-- The OPEN parameters of 00 R8 that a rule reads. -/
structure Params where
  /-- BASE, the platform address of the 4 KiB register block (20 R51, 93 U24). -/
  base : Nat
  /-- TIMEOUT_ORIGIN (40 R98). -/
  timeoutOrigin : TimeoutOrigin
  /-- BUS_PROGRAMMABLE(pclk, f, duty) (40 R104, R105). -/
  busProgrammable : Word → Word → Bool → Bool
  /-- CCR_FN(pclk, f, duty). -/
  ccrFn : Word → Word → Bool → Word
  /-- TRISE_FN(pclk, f). -/
  triseFn : Word → Word → Word
  /-- DISP_ADDR_RESET (10 R33). -/
  dispAddrReset : Byte
  /-- INIT_SEQ (41 R123). -/
  initSeq : InitSeq
  /-- PAGE_CMD(p) (41 R126). -/
  pageCmd : Nat → Byte
  /-- COL_CMDS (41 R126). -/
  colCmds : List Byte
  /-- INV_ON_CMD (41 R131). -/
  invOnCmd : Byte
  /-- INV_OFF_CMD (41 R131). -/
  invOffCmd : Byte
  /-- SCROLL_SEQ[RIGHT] (41 R134). -/
  scrollRight : List TemplateItem
  /-- SCROLL_SEQ[LEFT] (41 R135). -/
  scrollLeft : List TemplateItem
  /-- SCROLL_SEQ[DIAG_RIGHT] (41 R136). -/
  scrollDiagRight : List TemplateItem
  /-- SCROLL_SEQ[DIAG_LEFT] (41 R137). -/
  scrollDiagLeft : List TemplateItem
  /-- STOP_SCROLL_SEQ (41 R138). -/
  stopScrollSeq : List Byte
  /-- The OPEN glyph bits of Font_11x18 in slot 0 (10 R38). -/
  font0Glyph : Byte → Nat → Byte
  /-- Font slots 1..3, each present or absent (10 R38). -/
  font1 : Option Font
  font2 : Option Font
  font3 : Option Font
deriving Inhabited

/-- FONT[s] (10 R38): slot 0 is Font_11x18, slots 1..3 are parameters, and no other slot exists. -/
def Params.font (P : Params) : Nat → Option Font
  | 0 => some { fwLess := 10, fhLess := 17, glyph := P.font0Glyph }
  | 1 => P.font1
  | 2 => P.font2
  | 3 => P.font3
  | _ => none

namespace Config

/-- The parameters of the CORE at hand. Opaque: every theorem about the machine holds for all of them (log 4: safe). -/
opaque params : Params

/-- The byte that RAM `sp` holds at address `a` after the reset number `n`, until something writes it: a free value
(70 R191, U1, U2; log 3: safe). -/
opaque ramAtReset : Space → Nat → Nat → Byte

/-- The ENV answer of draw `n`, used when `State.answers` lists none: a free value (10 R36, U5; log 2: safe). -/
opaque freeAnswer : Nat → Machine.Answer

/-- Whether the engine (true) or the tick source (false) moves at draw `n`, used when `State.schedule` lists no event:
a free value (00 R12; log 1: safe). -/
opaque engineTurn : Nat → Bool

/-- Framebuffer width W (00 R6). -/
def width : Nat := 128

/-- Framebuffer height H (00 R6). -/
def height : Nat := 64

/-- FB_BYTES (00 R6). -/
def fbBytes : Nat := 1024

/-- PAGES (00 R6). -/
def pages : Nat := 8

/-- STAGE_BYTES (00 R8, D5). -/
def stageBytes : Nat := 256

/-- CTRL_CMD, the command-stream control byte (00 R7). -/
def ctrlCmd : Byte := 0x00

/-- CTRL_DATA, the data-stream control byte (00 R7). -/
def ctrlData : Byte := 0x40

/-- INIT_READY_TRIALS, the probe trials of DISP_INIT: the spec's own value (00 R8, D22; log 18). -/
def initReadyTrials : Nat := 1

end Config

end Sys2Proof
end

