-- ==== Sys2Proof/Machine/State.lean ====
section
/-! DEFINITION. The state of the CORE as plain data (10 R20, R42): the host-visible registers, the two RAMs, the
engine's hidden state (10 R39), the bus history (10 R37), the fault records (60 R171), and the model's own fields that
hold the other agents and the free draws (INVENTORY.md, "State"). -/

namespace Sys2Proof.Machine

/-- STATUS.ERR (60 R170). Codes 7..15 are never written (10 R24, U17), so they have no name. -/
inductive ErrCode where
  | ok
  | busTimeout
  | deviceNotReady
  | bufferExhausted
  | illegalCommand
  | notConfigured
  | configUnprogrammable
deriving DecidableEq, Repr, Inhabited

/-- The fields of STATUS (10 R24). The reserved bits read 0 and hold nothing. -/
structure Status where
  busy : Bool
  err : ErrCode
  configured : Bool
  dispReady : Bool
  inverted : Bool
  busDirty : Bool
  overrun : Bool
  halted : Bool
deriving DecidableEq, Repr

/-- CURSOR (10 R29): CX in bits 15:0, CY in bits 31:16, both unsigned. -/
structure Cursor where
  cx : BitVec 16
  cy : BitVec 16
deriving DecidableEq, Repr

/-- A RAM: its cells written since reset, addresses strictly rising. An address that is not listed has not been
written since reset (70 R191). -/
abbrev Memory := List Host.Cell

/-- The phases of a transaction (40 R95). -/
inductive Phase where
  | busyWait
  | start
  | addr
  | data
  | stop
deriving DecidableEq, Repr, Inhabited

/-- The bus actions of the engine (10 R36). -/
inductive Action where
  | start
  | addr (b : Byte)
  | tx (b : Byte)
  | rx (ack : Bool)
  | stop
deriving DecidableEq, Repr

/-- An entry of the bus history (10 R37): an action the engine emitted, or an ENV answer it consumed. -/
inductive BusEvent where
  | act (a : Action)
  | got (a : Answer)
deriving DecidableEq, Repr

/-- What the running command copied at acceptance (10 R39, 40 R92): CMD_L, ARG_L[0..2], TOF_L, TOB_L, TOS_L, ADDR_L. -/
structure Latch where
  cmd : Word
  arg0 : Word
  arg1 : Word
  arg2 : Word
  toFlag : Word
  toBusy : Word
  toStop : Word
  addr : Byte
deriving DecidableEq, Repr

/-- Which transaction of the running bus command is in progress: trial `k` of its presence probe with whether the
trial's ADDR phase was acknowledged (40 R108), or item `i` of its list of write or read transactions. -/
inductive Job where
  | probe (k : Nat) (acked : Bool)
  | item (i : Nat)
deriving DecidableEq, Repr

/-- The position inside a running bus command (10 R22, R39). `since` is the phase start tick t_p, none before the
phase's first poll; `origin` is the transaction start tick t_x; `xact` counts the transactions the command started;
`byte` is the payload byte index; `pending` is the command's pending result. -/
structure Pos where
  job : Job
  phase : Phase
  since : Option Word
  origin : Word
  xact : Nat
  byte : Nat
  pending : Word
deriving DecidableEq, Repr

/-- ENG.mode with the hidden state it carries (10 R22, R39). In EXEC the position is none before the command's first
engine step ("position: first step", 40 R92). -/
inductive Engine where
  | idle
  | exec (l : Latch) (p : Option Pos)
deriving DecidableEq, Repr

/-- A fault record of the set FAULTS (60 R171). It is data the machine keeps while it goes on, not a stop (log 6). -/
inductive FaultRecord where
  | hostBadAccess (off : BitVec 12) (w : Width) (d : Dir)
  | hostAccessWhileBusy (off : BitVec 12) (d : Dir)
  | halted
deriving DecidableEq, Repr

/-- The state. The first block is the spec's (10 R42), `schedule` and below are the model's own (INVENTORY.md). -/
structure State where
  /-- CMD: the last accepted command word (10 R23). -/
  cmd : Word
  /-- STATUS (10 R24). -/
  status : Status
  /-- ARG0, ARG1, ARG2 (10 R21). -/
  arg0 : Word
  arg1 : Word
  arg2 : Word
  /-- RESULT (10 R26). -/
  result : Word
  /-- ERR_INFO (10 R28). -/
  errInfo : Word
  /-- TICK (10 R30). -/
  tick : Word
  /-- CURSOR (10 R29). -/
  cursor : Cursor
  /-- BUS_CCR and BUS_TRISE (10 R31). -/
  busCcr : Word
  busTrise : Word
  /-- TO_FLAG, TO_BUSY, TO_STOP (10 R32). -/
  toFlag : Word
  toBusy : Word
  toStop : Word
  /-- DISP_ADDR bits 7:0 (10 R33). -/
  dispAddr : Byte
  /-- FB (10 R34). -/
  fb : Memory
  /-- STAGE (10 R35). -/
  stage : Memory
  /-- ENG.mode and the hidden engine state (10 R22, R39). -/
  eng : Engine
  /-- BH, oldest first (10 R37). -/
  bh : List BusEvent
  /-- FAULTS, without repeats (60 R171). -/
  faults : List FaultRecord
  /-- The agent steps still to be taken, oldest first (log 1). -/
  schedule : List Event
  /-- The answers ENV gives to the engine's next polls, oldest first (log 2). -/
  answers : List Answer
  /-- The number of free choices drawn so far (logs 1, 2). -/
  draws : Nat
  /-- Which reset drew the bytes that unwritten RAM holds (log 3). -/
  ramDraw : Nat
  /-- What the last host access handed back: the value read, or none (log 14). -/
  reply : Option Word
  /-- Whether the engine has polled at the current TICK value (40 R96, log 8). -/
  polled : Bool
deriving DecidableEq, Repr

/-- How a step can stop. -/
inductive Fault where
  /-- Raised by every meaning of Machine/BusMaster.lean, Display.lean and Graphics.lean when `exec` is asked for in
  IDLE, where the engine has no step (40 R93, 60 R185). No step of the machine raises it, since Machine/Agents.lean
  asks for `exec` only in EXEC (log 11). Safe: it stops where the spec has no step. -/
  | engineIdle
deriving DecidableEq, Repr

/-- How an instruction can be refused. -/
inductive Refusal where
  /-- Raised by an arm of `exec` that has no meaning yet; no arm raises it now. Safe: it stops. -/
  | notModelled (mnemonic : String)
deriving DecidableEq, Repr

/-- STATUS after reset: all fields 0 (10 R42, 70 R192). -/
def Status.reset : Status :=
  { busy := false, err := .ok, configured := false, dispReady := false, inverted := false, busDirty := false,
    overrun := false, halted := false }

/-- The CORE right after power-on reset (10 R42, 70 R190..R192), with no agent step placed and no answer listed. -/
def State.reset : State :=
  { cmd := 0, status := Status.reset, arg0 := 0, arg1 := 0, arg2 := 0, result := 0, errInfo := 0, tick := 0,
    cursor := { cx := 0, cy := 0 }, busCcr := 0, busTrise := 0, toFlag := 35, toBusy := 25, toStop := 5,
    dispAddr := Config.params.dispAddrReset, fb := [], stage := [], eng := .idle, bh := [], faults := [],
    schedule := [], answers := [], draws := 0, ramDraw := 0, reply := none, polled := false }

end Sys2Proof.Machine
end

