-- ==== Sys2Proof/Machine/Operands.lean ====
section
/-! DEFINITION. The operand forms of 30 R73, R74: how each layout reads the latched ARG words. Nothing is scaled, and
bits a layout does not name are not read. -/

namespace Sys2Proof.Machine

/-- `s16(v[15:0])` (00 R10). -/
def lowS16 (w : Word) : Int := (w.extractLsb' 0 16).toInt

/-- `s16(v[31:16])`. -/
def highS16 (w : Word) : Int := (w.extractLsb' 16 16).toInt

/-- `u16(v[15:0])`. -/
def lowU16 (w : Word) : Nat := (w.extractLsb' 0 16).toNat

/-- `u16(v[31:16])`. -/
def highU16 (w : Word) : Nat := (w.extractLsb' 16 16).toNat

/-- `v[7:0]`. -/
def byte0 (w : Word) : Byte := w.extractLsb' 0 8

/-- `v[15:8]`. -/
def byte1 (w : Word) : Byte := w.extractLsb' 8 8

/-- The point in an ARG word: X in the low half, Y in the high half (layouts LP, LL, LW, L3, LO, LM). -/
def point (w : Word) : Int × Int := (lowS16 w, highS16 w)

/-- ADDR8 of layouts LT and LR. -/
def Latch.addr8 (l : Latch) : Byte := byte0 l.arg0

/-- N of layout LT: 9 bits, so bit 9 and above are ignored. -/
def Latch.count (l : Latch) : Nat := (l.arg1.extractLsb' 0 9).toNat

/-- OFF of layouts LT and LM. -/
def Latch.off2 (l : Latch) : Nat := (byte0 l.arg2).toNat

/-- OFF of layout LS. -/
def Latch.off0 (l : Latch) : Nat := (byte0 l.arg0).toNat

/-- TRIALS of layout LR. -/
def Latch.trials (l : Latch) : Nat := lowU16 l.arg1

/-- TIMEOUT of layout LR. -/
def Latch.timeout (l : Latch) : Word := l.arg2

/-- CH of layout LC. -/
def Latch.char (l : Latch) : Byte := byte0 l.arg0

/-- START_ROW of layout LSC. -/
def Latch.startRow (l : Latch) : Byte := byte0 l.arg0

/-- END_ROW of layout LSC. -/
def Latch.endRow (l : Latch) : Byte := byte1 l.arg0

/-- W of layouts LW and LM. -/
def Latch.boxW (l : Latch) : Nat := lowU16 l.arg1

/-- H of layouts LW and LM. -/
def Latch.boxH (l : Latch) : Nat := highU16 l.arg1

/-- R of layout LO. -/
def Latch.radius (l : Latch) : Nat := lowU16 l.arg1

/-- The transfer check of TRANSMIT: `N > 256` or `OFF + N > 256` is illegal (30 R78). -/
def transmitLegal (l : Latch) : Bool := decide (l.count ≤ 256) && decide (l.off2 + l.count ≤ 256)

/-- The transfer check of RECEIVE: also `N = 0` is illegal (30 R78). -/
def receiveLegal (l : Latch) : Bool := decide (0 < l.count) && transmitLegal l

end Sys2Proof.Machine
end

