-- ==== Sys2Proof/Machine/Flags.lean ====
section
/-! DEFINITION. The words software reads from the status and report registers, and the parts they are made of: STATUS
(10 R24), the error codes (60 R170), ERR_INFO (10 R28), CURSOR (10 R29) and the parts of RESULT (10 R26). -/

namespace Sys2Proof.Machine

/-- One bit of a word. -/
def flagBit (b : Bool) (i : Nat) : Word := if b then 1#32 <<< i else 0#32

/-- The number of an error code (60 R170). -/
def errNumber : ErrCode → BitVec 4
  | .ok => 0
  | .busTimeout => 1
  | .deviceNotReady => 2
  | .bufferExhausted => 3
  | .illegalCommand => 4
  | .notConfigured => 5
  | .configUnprogrammable => 6

/-- STATUS as the host reads it (10 R24); reserved bits read 0. -/
def statusWord (st : Status) : Word :=
  flagBit st.busy 0 ||| ((errNumber st.err).setWidth 32 <<< 4) ||| flagBit st.configured 8 |||
    flagBit st.dispReady 9 ||| flagBit st.inverted 10 ||| flagBit st.busDirty 11 ||| flagBit st.overrun 12 |||
    flagBit st.halted 13

/-- CURSOR as the host reads it: CX in bits 15:0, CY in bits 31:16 (10 R29). -/
def cursorWord (c : Cursor) : Word := c.cx.setWidth 32 ||| (c.cy.setWidth 32 <<< 16)

/-- The PHASE code of ERR_INFO (10 R28, 40 R95). -/
def phaseCode : Phase → Word
  | .busyWait => 1
  | .start => 2
  | .addr => 3
  | .data => 4
  | .stop => 5

/-- ERR_INFO of a timed-out phase (10 R28, 40 R102): PHASE in 3:0, BYTE_INDEX in 16:8 for DATA and 0 otherwise,
XACT_INDEX in 31:24, saturating at 255. -/
def timeoutInfo (ph : Phase) (byte xact : Nat) : Word :=
  phaseCode ph ||| ((BitVec.ofNat 9 (if ph = .data then byte else 0)).setWidth 32 <<< 8) |||
    (BitVec.ofNat 32 (min xact 255) <<< 24)

/-- RESULT of TRANSMIT and RECEIVE: the number of bytes done in bits 8:0 (10 R26). -/
def bytesResult (done : Nat) : Word := (BitVec.ofNat 9 done).setWidth 32

/-- RESULT of IS_DEVICE_READY in trial `k`, not yet acknowledged: the trial in bits 31:16 (10 R26). -/
def trialResult (k : Nat) : Word := (BitVec.ofNat 16 k).setWidth 32 <<< 16

/-- RESULT of a failing PUTC or PUTS: the character in bits 7:0 (10 R26). -/
def charResult (ch : Byte) : Word := ch.setWidth 32

end Sys2Proof.Machine
end

