-- ==== Sys2Proof/Machine/Ops.lean ====
section
/-! DEFINITION. The named operations over memory, registers and the command life cycle that every meaning shares:
`MemRead` and `MemWrite` of FB and STAGE (00 R11), acceptance (40 R92), completion and raising an error (40 R94,
60 R172: the CORE's analogue of taking an exception; there is no return, acceptance clears the report, 60 R177), the
bus history (10 R37), the fault set (60 R171), and ENV's answers (10 R36). -/

namespace Sys2Proof.Machine

/-- The byte written at an address since reset, if any. -/
def memLookup : Memory → Nat → Option Byte
  | [], _ => none
  | (a, b) :: m, k => if k = a then some b else memLookup m k

/-- Write a byte, keeping the addresses strictly rising. -/
def memInsert : Memory → Nat → Byte → Memory
  | [], k, v => [(k, v)]
  | (a, b) :: m, k, v =>
    if k < a then (k, v) :: (a, b) :: m else if k = a then (k, v) :: m else (a, b) :: memInsert m k v

/-- The addresses rise strictly from `lo` up. -/
def memRising : Nat → Memory → Bool
  | _, [] => true
  | lo, (a, _) :: m => decide (lo ≤ a) && memRising (a + 1) m

/-- The canonical form: strictly rising addresses, all inside a RAM of `size` bytes. An unlisted address is one that
was not written since reset, so no entry equals what an unlisted address stands for. -/
def Memory.wf (size : Nat) (m : Memory) : Bool := memRising 0 m && m.all (fun c => decide (c.1 < size))

/-- The size of a RAM (20 R50). -/
def spaceSize : Space → Nat
  | .fb => Config.fbBytes
  | .stage => Config.stageBytes

/-- The cells of a RAM. -/
def State.cells (s : State) : Space → Memory
  | .fb => s.fb
  | .stage => s.stage

/-- `MemRead(space, a, 1)`: the byte written last, or the byte the reset drew (70 R191, log 3). -/
def State.readByte (s : State) (sp : Space) (a : Nat) : Byte :=
  (memLookup (s.cells sp) a).getD (Config.ramAtReset sp s.ramDraw a)

/-- Replace the cells of a RAM. -/
def State.setCells (s : State) (sp : Space) (m : Memory) : State :=
  match sp with
  | .fb => { s with fb := m }
  | .stage => { s with stage := m }

/-- `MemWrite(space, a, 1, v)`. No rule writes outside a RAM; such a write would change nothing (log 20). -/
def State.writeByte (s : State) (sp : Space) (a : Nat) (v : Byte) : State :=
  if a < spaceSize sp then s.setCells sp (memInsert (s.cells sp) a v) else s

/-- `MemRead(space, a, n)` as a list of bytes, lowest address first. -/
def State.readBytes (s : State) (sp : Space) (a n : Nat) : List Byte :=
  (List.range n).map (fun i => s.readByte sp (a + i))

/-- `MemWrite(space, a, n, v)` of a list of bytes, lowest address first. -/
def State.writeBytes (s : State) (sp : Space) (a : Nat) : List Byte → State
  | [] => s
  | b :: bs => (s.writeByte sp a b).writeBytes sp (a + 1) bs

/-- Little-endian assembly of a byte list into a word (20 R54). -/
def wordOfBytes : List Byte → Word
  | [] => 0#32
  | b :: bs => b.setWidth 32 ||| (wordOfBytes bs <<< 8)

/-- The `n` low bytes of a word, least significant first (20 R54). -/
def bytesOfWord : Nat → Word → List Byte
  | 0, _ => []
  | n + 1, w => w.setWidth 8 :: bytesOfWord n (w >>> 8)

/-- Add a record to the set FAULTS (60 R171). -/
def State.record (s : State) (r : FaultRecord) : State :=
  { s with faults := if r ∈ s.faults then s.faults else s.faults ++ [r] }

/-- `Emit(a)`: the action goes to the end of BH (00 R11, 10 R37). -/
def State.emit (s : State) (a : Action) : State := { s with bh := s.bh ++ [.act a] }

/-- An answer that ended a phase is consumed and goes to the end of BH (10 R37, log 9). -/
def State.consume (s : State) (a : Answer) : State := { s with bh := s.bh ++ [.got a] }

/-- The answer ENV gives at the engine's next poll: the next one listed, else a free value (10 R36, log 2). -/
def State.nextAnswer (s : State) : Answer :=
  match s.answers with
  | a :: _ => a
  | [] => Config.freeAnswer s.draws

/-- The state after a poll took ENV's answer: the answer is used up and the engine has polled at this TICK value
(40 R96, log 8). -/
def State.takeAnswer (s : State) : State :=
  match s.answers with
  | _ :: as => { s with answers := as, polled := true }
  | [] => { s with draws := s.draws + 1, polled := true }

/-- What acceptance copies (40 R92, 20 R63). -/
def State.latch (s : State) (v : Word) : Latch :=
  { cmd := v, arg0 := s.arg0, arg1 := s.arg1, arg2 := s.arg2, toFlag := s.toFlag, toBusy := s.toBusy,
    toStop := s.toStop, addr := s.dispAddr }

/-- Acceptance of the command word `v` (40 R92 case 3). -/
def State.accept (s : State) (v : Word) : State :=
  { s with
    cmd := v
    result := 0
    errInfo := 0
    status := { s.status with err := .ok, busy := true }
    eng := .exec (s.latch v) none }

/-- A host write of `v` to CMD, the three cases of 40 R92. -/
def State.writeCmd (s : State) (v : Word) : State :=
  if s.status.halted then s
  else if s.status.busy then { s with status := { s.status with overrun := true } }
  else s.accept v

/-- `complete(code)` with the command's pending result and pending info (40 R94, 60 R172). -/
def State.complete (s : State) (code : ErrCode) (pending info : Word) : State :=
  { s with
    result := pending
    errInfo := if code = .busTimeout then info else s.errInfo
    status := { s.status with err := code, busy := false }
    eng := .idle }

/-- One engine step of a running command: it needs EXEC (40 R93). `f` gets what acceptance latched and the position. -/
def inExec (s : State) (f : Latch → Option Pos → State) : Host.Outcome State Fault Refusal :=
  match s.eng with
  | .idle => .fault .engineIdle
  | .exec l p => .next (f l p)

/-- Set the position of the running command. -/
def State.at (s : State) (l : Latch) (p : Pos) : State := { s with eng := .exec l (some p) }

end Sys2Proof.Machine
end

