-- ==== Sys2Proof/Machine/Bus.lean ====
section
/-! DEFINITION. The bus phase machine every bus command runs (40 R95..R102, R108, 41 R121, R122). A bus command is a
`BusCmd`: an optional presence probe, then a list of write or read transactions. One engine step makes one poll of one
phase (40 R96); the action of a phase is emitted in the step of its first poll (40 R93). -/

namespace Sys2Proof.Machine

/-- The payload of a write transaction (40 R99), read from the RAMs when each byte is sent (20 R63,
log 24). -/
inductive Payload where
  /-- A display command transaction: these bytes (41 R121). -/
  | literal (bs : List Byte)
  /-- A display data transaction: CTRL_DATA, then the 128 FB bytes of page `p` (41 R121, R126). -/
  | page (p : Nat)
  /-- TRANSMIT: `n` bytes of STAGE from `off` (40 R106). -/
  | stage (off n : Nat)
deriving DecidableEq, Repr

/-- The number of payload bytes. -/
def Payload.length : Payload → Nat
  | .literal bs => bs.length
  | .page _ => Config.width + 1
  | .stage _ n => n

/-- Payload byte `i`. -/
def Payload.byteAt (s : State) : Payload → Nat → Byte
  | .literal bs, i => bs.getD i 0
  | .page _, 0 => Config.ctrlData
  | .page p, i + 1 => s.readByte .fb (Config.width * p + i)
  | .stage off _, i => s.readByte .stage (off + i)

/-- One transaction: a probe trial (40 R108), a write (40 R99) or a read (40 R101). -/
inductive Xact where
  | probe (a8 : Byte)
  | write (a8 : Byte) (pl : Payload)
  | read (a8 : Byte) (off n : Nat)
deriving DecidableEq, Repr

/-- The presence probe of IS_DEVICE_READY and DISP_INIT (40 R108, 41 R123). -/
structure Probe where
  a8 : Byte
  trials : Nat
  budget : Word
deriving DecidableEq, Repr

/-- What a bus command reports in RESULT (10 R26) and which status bit it writes at its end. -/
inductive Report where
  /-- TRANSMIT, RECEIVE: RESULT counts the bytes done. -/
  | bytes
  /-- IS_DEVICE_READY: RESULT holds READY and the trial number. -/
  | trials
  /-- DISP_INIT: RESULT[0] and DISP_READY. -/
  | dispInit
  /-- TOGGLE_INVERT, INVERT_DISPLAY: INVERTED on success. -/
  | invert (v : Bool)
  /-- The other display commands: nothing. -/
  | plain
deriving DecidableEq, Repr

/-- A bus command: its probe, its transactions in order, its report. -/
structure BusCmd where
  probe : Option Probe
  items : List Xact
  report : Report
deriving DecidableEq, Repr

/-- `AddrByte(a8, rw) = (a8 & 0xFE) | rw`; rw is 0 for write, 1 for read (40 R100). -/
def addrByte (a8 : Byte) (read : Bool) : Byte := (a8 &&& 0xFE#8) ||| (if read then 1#8 else 0#8)

/-- The address byte of a transaction; a probe trial addresses for writing (40 R108). -/
def Xact.addr : Xact → Byte
  | .probe a8 => addrByte a8 false
  | .write a8 _ => addrByte a8 false
  | .read a8 _ _ => addrByte a8 true

/-- The number of DATA phases of a transaction. -/
def Xact.length : Xact → Nat
  | .probe _ => 0
  | .write _ pl => pl.length
  | .read _ _ n => n

/-- The transaction in progress. -/
def BusCmd.current (c : BusCmd) (p : Pos) : Option Xact :=
  match p.job with
  | .probe _ _ => c.probe.map (fun pr => .probe pr.a8)
  | .item i => c.items[i]?

/-- The action emitted at the start of a phase (40 R95). The master acknowledges every received byte but the last
(40 R101). -/
def phaseAction (s : State) (x : Xact) (ph : Phase) (i : Nat) : Option Action :=
  match ph with
  | .busyWait => none
  | .start => some .start
  | .addr => some (.addr x.addr)
  | .data =>
    match x with
    | .probe _ => none
    | .write _ pl => some (.tx (pl.byteAt s i))
    | .read _ _ n => some (.rx (decide (i + 1 < n)))
  | .stop => some .stop

/-- Whether an answer ends the phase (40 R95, R99, R101, R108): `nack` does so only in a probe trial. -/
def wanted (x : Xact) (ph : Phase) (a : Answer) : Bool :=
  match ph, a with
  | .busyWait, .idle => true
  | .start, .startDone => true
  | .addr, .ack => true
  | .addr, .nack => match x with
    | .probe _ => true
    | _ => false
  | .data, .byteDone => match x with
    | .write _ _ => true
    | _ => false
  | .data, .byteIn _ => match x with
    | .read _ _ _ => true
    | _ => false
  | .stop, .stopDone => true
  | _, _ => false

/-- The budget of a phase (40 R91, R95): TOB_L for BUSY_WAIT, TOS_L for STOP, TIMEOUT for the START and ADDR of a
probe, TOF_L for every other wait. -/
def phaseBudget (c : BusCmd) (l : Latch) (p : Pos) : Word :=
  match p.phase with
  | .busyWait => l.toBusy
  | .stop => l.toStop
  | .data => l.toFlag
  | .start | .addr =>
    match p.job, c.probe with
    | .probe _ _, some pr => pr.budget
    | _, _ => l.toFlag

/-- The status bits a bus command writes with its success (41 R123, R131, R132). -/
def successStatus (r : Report) (st : Status) : Status :=
  match r with
  | .dispInit => { st with dispReady := true }
  | .invert v => { st with inverted := v }
  | _ => st

/-- The status bits a bus command writes with its failure (41 R123). -/
def failureStatus (r : Report) (st : Status) : Status :=
  match r with
  | .dispInit => { st with dispReady := false }
  | _ => st

/-- The pending result with which a command that succeeded completes: READY in bit 0 (40 R108, 41 R123). -/
def successResult (r : Report) (pending : Word) : Word :=
  match r with
  | .trials => pending ||| 1#32
  | .dispInit => pending ||| 1#32
  | _ => pending

/-- The pending result after the trial `k` started (40 R108). -/
def pendingTrial (r : Report) (k : Nat) (pending : Word) : Word :=
  match r with
  | .trials => trialResult k
  | _ => pending

/-- The pending result after `done` payload bytes (40 R106, R107). -/
def pendingBytes (r : Report) (done : Nat) (pending : Word) : Word :=
  match r with
  | .bytes => bytesResult done
  | _ => pending

/-- The command's last transaction ended well: `complete(OK)`. -/
def busSucceed (c : BusCmd) (pending : Word) (s : State) : State :=
  { s with status := successStatus c.report s.status }.complete .ok (successResult c.report pending) 0

/-- Every trial was answered `nack`, or there is no trial: `complete(DEVICE_NOT_READY)` (40 R108, 41 R123). -/
def busNotReady (c : BusCmd) (pending : Word) (s : State) : State :=
  { s with status := failureStatus c.report s.status }.complete .deviceNotReady pending 0

/-- `fail(ph, i)` (40 R102): BUS_DIRTY is set and the command ends with BUS_TIMEOUT; no STOP is emitted. -/
def busFail (c : BusCmd) (p : Pos) (s : State) : State :=
  { s with status := { failureStatus c.report s.status with busDirty := true } }.complete .busTimeout p.pending
    (timeoutInfo p.phase p.byte p.xact)

/-- Go to another phase of the same transaction; its first poll is still to come. -/
def Pos.goto (p : Pos) (ph : Phase) : Pos := { p with phase := ph, since := none }

/-- Go on to transaction `i` of the list, or end the command when there is none (41 R122). -/
def nextItem (c : BusCmd) (l : Latch) (p : Pos) (i : Nat) (s : State) : State :=
  match c.items[i]? with
  | none => busSucceed c p.pending s
  | some _ =>
    s.at l { p with job := .item i, phase := .busyWait, since := none, xact := p.xact + 1, byte := 0 }

/-- The STOP phase ended: the transaction is over (40 R99, R101, R108). -/
def endTransaction (c : BusCmd) (l : Latch) (p : Pos) (s : State) : State :=
  match p.job with
  | .item i => nextItem c l p (i + 1) s
  | .probe k acked =>
    if acked then nextItem c l p 0 s
    else if k < (c.probe.map Probe.trials).getD 0 then
      s.at l { p with job := .probe (k + 1) false, phase := .start, since := none, xact := p.xact + 1, byte := 0 }
    else busNotReady c p.pending s

/-- A byte received in a DATA phase goes to STAGE at once (40 R101). -/
def storeReceived (x : Xact) (i : Nat) (a : Answer) (s : State) : State :=
  match x, a with
  | .read _ off _, .byteIn v => s.writeByte .stage (off + i) v
  | _, _ => s

/-- The answer `a` ended phase `p.phase` of transaction `x`: what follows (40 R99, R101, R108). -/
def endPhase (c : BusCmd) (l : Latch) (x : Xact) (p : Pos) (a : Answer) (s : State) : State :=
  match p.phase with
  | .busyWait => s.at l (p.goto .start)
  | .start => s.at l (p.goto .addr)
  | .addr =>
    let job : Job := match p.job with
      | .probe k _ => .probe k (decide (a = .ack))
      | .item i => .item i
    s.at l ({ p with job := job }.goto (if x.length = 0 then .stop else .data))
  | .data =>
    let p1 := { p with pending := pendingBytes c.report (p.byte + 1) p.pending }
    (storeReceived x p.byte a s).at l
      (if p.byte + 1 < x.length then { p1 with byte := p.byte + 1 }.goto .data else p1.goto .stop)
  | .stop => endTransaction c l p s

/-- Whether the phase is the first of its transaction: BUSY_WAIT, or START from the second trial on (40 R108). -/
def Pos.opensTransaction (p : Pos) : Bool :=
  match p.phase, p.job with
  | .busyWait, _ => true
  | .start, .probe k _ => decide (1 < k)
  | _, _ => false

/-- What the step of a phase's first poll settles before polling: t_x at a transaction's first step, t_p by
TIMEOUT_ORIGIN (40 R96, R98), and the trial number of the pending result (40 R108). -/
def openPhase (origin : TimeoutOrigin) (c : BusCmd) (tick : Word) (p : Pos) : Pos :=
  let tx := if p.opensTransaction then tick else p.origin
  let tp := match origin with
    | .phaseStart => tick
    | .transactionStart => tx
  let pending := match p.phase, p.job with
    | .start, .probe k _ => pendingTrial c.report k p.pending
    | _, _ => p.pending
  { p with since := some tp, origin := tx, pending := pending }

/-- Elapsed ticks at a poll: `(TICK - t_p) mod 2^32` (40 R96). -/
def elapsed (s : State) (p : Pos) : Word := s.tick - p.since.getD s.tick

/-- One iteration of the bounded wait (40 R96): the flag is tested first, then the deadline, strictly. -/
def pollPhase (c : BusCmd) (l : Latch) (x : Xact) (p : Pos) (s : State) : State :=
  let a := s.nextAnswer
  if wanted x p.phase a then endPhase c l x p a (s.takeAnswer.consume a)
  else if phaseBudget c l p < elapsed s p then busFail c p s.takeAnswer
  else s.takeAnswer.at l p

/-- The phase's first poll also emits its action (40 R93). -/
def openAndPoll (P : Params) (c : BusCmd) (l : Latch) (x : Xact) (p : Pos) (s : State) : State :=
  let p1 := openPhase P.timeoutOrigin c s.tick p
  let s1 := match phaseAction s x p.phase p.byte with
    | some act => s.emit act
    | none => s
  pollPhase c l x p1 s1

/-- One engine step of a bus command at position `p`: one poll. A position past the last transaction has nothing left
to do and completes (log 19). -/
def busPoll (P : Params) (c : BusCmd) (l : Latch) (p : Pos) (s : State) : State :=
  match c.current p with
  | none => busSucceed c p.pending s
  | some x =>
    match p.since with
    | none => openAndPoll P c l x p s
    | some _ => pollPhase c l x p s

/-- The position of a command's first poll. -/
def Pos.first (j : Job) : Pos :=
  { job := j, phase := .busyWait, since := none, origin := 0, xact := 0, byte := 0, pending := 0 }

/-- A bus command's first engine step once its checks passed: it makes the first poll (log 7). A probe of no trial is
not ready without touching the bus (40 R108); a command with no transaction completes (log 23). -/
def busBegin (P : Params) (c : BusCmd) (l : Latch) (s : State) : State :=
  match c.probe with
  | some pr =>
    if pr.trials = 0 then busNotReady c 0 s else busPoll P c l (Pos.first (.probe 1 false)) s
  | none => busPoll P c l (Pos.first (.item 0)) s

/-- One engine step of a bus command: at the first step the checks of 60 R174 in order (operands, CONFIGURED), then
one poll per step. -/
def busStep (P : Params) (legal : Bool) (c : BusCmd) (l : Latch) (pos : Option Pos) (s : State) : State :=
  match pos with
  | none =>
    if legal then
      if s.status.configured then busBegin P c l s else s.complete .notConfigured 0 0
    else s.complete .illegalCommand 0 0
  | some p => busPoll P c l p s

/-- `CmdX(c)`: one command byte after CTRL_CMD (41 R121). -/
def cmdX (l : Latch) (b : Byte) : Xact := .write l.addr (.literal [Config.ctrlCmd, b])

/-- `DataX` of FB page `p` (41 R121, R126). -/
def dataX (l : Latch) (p : Nat) : Xact := .write l.addr (.page p)

end Sys2Proof.Machine
end

