-- ==== Sys2Proof/Machine/BusMaster.lean ====
section
/-! DEFINITION. The meanings of the BusDriver family (40 R103..R109): NOP, BUS_INIT, TRANSMIT, RECEIVE,
IS_DEVICE_READY. -/

namespace Sys2Proof.Machine

/-- NOP (40 R103): `complete(OK)`. -/
def execNop (s : State) : Host.Outcome State Fault Refusal :=
  inExec s fun _ _ => s.complete .ok 0 0

/-- BUS_INIT that programs the bus (40 R104). -/
def busInitDone (P : Params) (duty : Bool) (l : Latch) (s : State) : State :=
  { s with
    busCcr := P.ccrFn l.arg0 l.arg1 duty
    busTrise := P.triseFn l.arg0 l.arg1
    status := { s.status with configured := true, busDirty := false } }.complete .ok 0 0

/-- BUS_INIT that cannot program the frequency (40 R105): the CORE halts until reset and the fault `Halted` is
recorded. -/
def busInitHalt (s : State) : State :=
  ({ s with status := { s.status with configured := false, halted := true } }.record .halted).complete
    .configUnprogrammable 0 0

/-- BUS_INIT under the parameters `P` (40 R104, R105). -/
def busInit (P : Params) (duty : Bool) (l : Latch) (s : State) : State :=
  if P.busProgrammable l.arg0 l.arg1 duty then busInitDone P duty l s else busInitHalt s

/-- BUS_INIT (40 R104, R105). -/
def execBusInit (duty : Bool) (s : State) : Host.Outcome State Fault Refusal :=
  inExec s fun l _ => busInit Config.params duty l s

/-- TRANSMIT as a bus command (40 R106): one write transaction of N bytes of STAGE from OFF. -/
def transmitCmd (l : Latch) : BusCmd :=
  { probe := none, items := [.write l.addr8 (.stage l.off2 l.count)], report := .bytes }

/-- TRANSMIT (40 R106). -/
def execTransmit (s : State) : Host.Outcome State Fault Refusal :=
  inExec s fun l p => busStep Config.params (transmitLegal l) (transmitCmd l) l p s

/-- RECEIVE as a bus command (40 R107): one read transaction of N bytes into STAGE from OFF. -/
def receiveCmd (l : Latch) : BusCmd :=
  { probe := none, items := [.read l.addr8 l.off2 l.count], report := .bytes }

/-- RECEIVE (40 R107). -/
def execReceive (s : State) : Host.Outcome State Fault Refusal :=
  inExec s fun l p => busStep Config.params (receiveLegal l) (receiveCmd l) l p s

/-- IS_DEVICE_READY as a bus command (40 R108): a probe of TRIALS trials with the TIMEOUT budget. -/
def isDeviceReadyCmd (l : Latch) : BusCmd :=
  { probe := some { a8 := l.addr8, trials := l.trials, budget := l.timeout }, items := [], report := .trials }

/-- IS_DEVICE_READY (40 R108). -/
def execIsDeviceReady (s : State) : Host.Outcome State Fault Refusal :=
  inExec s fun l p => busStep Config.params true (isDeviceReadyCmd l) l p s

end Sys2Proof.Machine
end

