-- ==== Sys2Proof/Machine/Graphics.lean ====
section
/-! DEFINITION. The graphics engine (42_graphics.md). Each rasteriser gives the points it plots, in the order of its
`Plot` calls (42 R164 law 1), and `plotAll` plots them with one colour. Then the meanings of the eight DRAW commands.
All arithmetic is on integers (42 R151). -/

namespace Sys2Proof.Machine

/-- A point of the plane, on or off the screen. -/
abbrev Point := Int × Int

/-- `0 <= x < W and 0 <= y < H` (42 R152). -/
def onScreen (pt : Point) : Bool :=
  decide (0 ≤ pt.1) && decide (pt.1 < Config.width) && decide (0 ≤ pt.2) && decide (pt.2 < Config.height)

/-- Byte index `x + (y >> 3) * W` of an on-screen point (10 R34). -/
def pixelByte (pt : Point) : Nat := pt.1.toNat + pt.2.toNat / 8 * Config.width

/-- Bit `y & 7` of an on-screen point (10 R34). -/
def pixelBit (pt : Point) : Nat := pt.2.toNat % 8

/-- A byte with one bit set or cleared (42 R152). -/
def paintBit (c : Color) (b : Byte) (i : Nat) : Byte :=
  match c with
  | .white => b ||| (1#8 <<< i)
  | .black => b &&& ~~~(1#8 <<< i)

/-- `Plot(x, y, c)` (42 R152): off the screen it has no effect. -/
def plot (c : Color) (s : State) (pt : Point) : State :=
  if onScreen pt then
    s.writeByte .fb (pixelByte pt) (paintBit c (s.readByte .fb (pixelByte pt)) (pixelBit pt))
  else s

/-- The `Plot` calls of one command in order. -/
def plotAll (c : Color) (pts : List Point) (s : State) : State := pts.foldl (plot c) s

/-- The pixel the framebuffer holds at an on-screen point (10 R34). -/
def State.pixel (s : State) (pt : Point) : Bool := (s.readByte .fb (pixelByte pt)).getLsbD (pixelBit pt)

/-- The loop of 42 R154: plot, exit at the end point, step by the error term. `fuel` bounds the passes; the loop ends
after `max(dx, dy) + 1` of them. -/
def lineLoop (xb yb dx dy sx sy : Int) : Nat → Int → Int → Int → List Point
  | 0, _, _, _ => []
  | fuel + 1, x, y, err =>
    (x, y) ::
      if x = xb ∧ y = yb then []
      else
        let e2 := 2 * err
        let errX := if e2 > -dy then err - dy else err
        let x' := if e2 > -dy then x + sx else x
        let err' := if e2 < dx then errX + dx else errX
        let y' := if e2 < dx then y + sy else y
        lineLoop xb yb dx dy sx sy fuel x' y' err'

/-- The lexicographic order of 42 R154 in which the endpoints are put. -/
def lexLess (p q : Point) : Bool := decide (p.1 < q.1) || (decide (p.1 = q.1) && decide (p.2 < q.2))

/-- The line from `a` to `b` with `a` first in the fixed order. -/
def orderedLine (a b : Point) : List Point :=
  let dx : Int := (b.1 - a.1).natAbs
  let dy : Int := (b.2 - a.2).natAbs
  let sx : Int := if a.1 < b.1 then 1 else -1
  let sy : Int := if a.2 < b.2 then 1 else -1
  lineLoop b.1 b.2 dx dy sx sy (max (b.1 - a.1).natAbs (b.2 - a.2).natAbs + 1) a.1 a.2 (dx - dy)

/-- `Line(xa, ya, xb, yb)` (42 R154): the points plotted, the same for both directions. -/
def linePoints (a b : Point) : List Point := if lexLess b a then orderedLine b a else orderedLine a b

/-- The perimeter of a W' x H' rectangle: top, bottom, left, right (42 R156). -/
def rectPoints (a : Point) (w h : Nat) : List Point :=
  if w = 0 ∨ h = 0 then []
  else
    let x2 := a.1 + w - 1
    let y2 := a.2 + h - 1
    linePoints a (x2, a.2) ++ linePoints (a.1, y2) (x2, y2) ++ linePoints a (a.1, y2) ++
      linePoints (x2, a.2) (x2, y2)

/-- A horizontal span per row of a W' x H' rectangle (42 R157). -/
def filledRectPoints (a : Point) (w h : Nat) : List Point :=
  if w = 0 ∨ h = 0 then []
  else
    (List.range h).flatMap fun (r : Nat) => linePoints (a.1, a.2 + (r : Int)) (a.1 + (w : Int) - 1, a.2 + (r : Int))

/-- The three edges of a triangle (42 R158). -/
def trianglePoints (p1 p2 p3 : Point) : List Point := linePoints p1 p2 ++ linePoints p2 p3 ++ linePoints p3 p1

/-- The four points plotted before the circle loop (42 R159). -/
def circlePoles (o : Point) (r : Nat) : List Point :=
  [(o.1, o.2 + r), (o.1, o.2 - r), (o.1 + r, o.2), (o.1 - r, o.2)]

/-- The passes of the midpoint loop (42 R159): the pairs (x, y) after the updates of each pass, while `x < y`. The
loop runs at most `r` times, so `r` bounds it. -/
def circleSteps : Nat → Int → Int → Int → Int → Int → List (Int × Int)
  | 0, _, _, _, _, _ => []
  | fuel + 1, f, ddx, ddy, x, y =>
    if x < y then
      let y1 := if f ≥ 0 then y - 1 else y
      let ddy1 := if f ≥ 0 then ddy + 2 else ddy
      let f1 := if f ≥ 0 then f + ddy1 else f
      let x1 := x + 1
      let ddx1 := ddx + 2
      let f2 := f1 + ddx1
      (x1, y1) :: circleSteps fuel f2 ddx1 ddy1 x1 y1
    else []

/-- The passes for radius `r`. -/
def circlePasses (r : Nat) : List (Int × Int) := circleSteps r (1 - r) 1 (-2 * r) 0 r

/-- The eight points of one pass (42 R159). -/
def octantPoints (o : Point) (d : Int × Int) : List Point :=
  [(o.1 + d.1, o.2 + d.2), (o.1 - d.1, o.2 + d.2), (o.1 + d.1, o.2 - d.2), (o.1 - d.1, o.2 - d.2),
   (o.1 + d.2, o.2 + d.1), (o.1 - d.2, o.2 + d.1), (o.1 + d.2, o.2 - d.1), (o.1 - d.2, o.2 - d.1)]

/-- `Circle(x0, y0, r)` (42 R159). -/
def circlePoints (o : Point) (r : Nat) : List Point :=
  circlePoles o r ++ (circlePasses r).flatMap (octantPoints o)

/-- The four spans of one pass of the filled circle (42 R161). -/
def octantSpans (o : Point) (d : Int × Int) : List Point :=
  linePoints (o.1 - d.1, o.2 + d.2) (o.1 + d.1, o.2 + d.2) ++ linePoints (o.1 - d.1, o.2 - d.2) (o.1 + d.1, o.2 - d.2) ++
    linePoints (o.1 - d.2, o.2 + d.1) (o.1 + d.2, o.2 + d.1) ++ linePoints (o.1 - d.2, o.2 - d.1) (o.1 + d.2, o.2 - d.1)

/-- `FilledCircle(x0, y0, r)` (42 R161). -/
def filledCirclePoints (o : Point) (r : Nat) : List Point :=
  circlePoles o r ++ linePoints (o.1 - r, o.2) (o.1 + r, o.2) ++ (circlePasses r).flatMap (octantSpans o)

/-- `BitmapBit(bm, w, i, j)` (42 R162): row `j` takes `(w + 7) >> 3` bytes, the leftmost pixel of a byte is bit 7. -/
def bitmapBit (bm : Nat → Byte) (w i j : Nat) : Bool := (bm (j * ((w + 7) / 8) + i / 8)).getLsbD (7 - i % 8)

/-- The points of a bitmap's set bits, row by row, at the corner `a` (42 R163, 41 R128). -/
def bitmapPoints (bm : Nat → Byte) (a : Point) (w h : Nat) : List Point :=
  (List.range h).flatMap fun (j : Nat) =>
    ((List.range w).filter (fun i => bitmapBit bm w i j)).map fun (i : Nat) => (a.1 + (i : Int), a.2 + (j : Int))

/-- The bitmap of DRAW_BITMAP: STAGE from `off` on, zero past STAGE[255] (42 R163). -/
def stageBitmap (s : State) (off k : Nat) : Byte :=
  if off + k < Config.stageBytes then s.readByte .stage (off + k) else 0

/-- A DRAW command: plot its points and complete (42 R150). -/
def draw (c : Color) (pts : List Point) (s : State) : State := (plotAll c pts s).complete .ok 0 0

/-- DRAW_PIXEL (42 R153). -/
def execDrawPixel (c : Color) (s : State) : Host.Outcome State Fault Refusal :=
  inExec s fun l _ => draw c [point l.arg0] s

/-- DRAW_LINE (42 R155). -/
def execDrawLine (c : Color) (s : State) : Host.Outcome State Fault Refusal :=
  inExec s fun l _ => draw c (linePoints (point l.arg0) (point l.arg1)) s

/-- DRAW_RECT (42 R156). -/
def execDrawRect (c : Color) (s : State) : Host.Outcome State Fault Refusal :=
  inExec s fun l _ => draw c (rectPoints (point l.arg0) l.boxW l.boxH) s

/-- DRAW_FILLED_RECT (42 R157). -/
def execDrawFilledRect (c : Color) (s : State) : Host.Outcome State Fault Refusal :=
  inExec s fun l _ => draw c (filledRectPoints (point l.arg0) l.boxW l.boxH) s

/-- DRAW_TRIANGLE (42 R158). -/
def execDrawTriangle (c : Color) (s : State) : Host.Outcome State Fault Refusal :=
  inExec s fun l _ => draw c (trianglePoints (point l.arg0) (point l.arg1) (point l.arg2)) s

/-- DRAW_CIRCLE (42 R160). -/
def execDrawCircle (c : Color) (s : State) : Host.Outcome State Fault Refusal :=
  inExec s fun l _ => draw c (circlePoints (point l.arg0) l.radius) s

/-- DRAW_FILLED_CIRCLE (42 R161). -/
def execDrawFilledCircle (c : Color) (s : State) : Host.Outcome State Fault Refusal :=
  inExec s fun l _ => draw c (filledCirclePoints (point l.arg0) l.radius) s

/-- DRAW_BITMAP (42 R163). -/
def execDrawBitmap (c : Color) (s : State) : Host.Outcome State Fault Refusal :=
  inExec s fun l _ => draw c (bitmapPoints (stageBitmap s l.off2) (point l.arg0) l.boxW l.boxH) s

end Sys2Proof.Machine
end

