-- ==== Sys2Proof/Machine/Display.lean ====
section
/-! DEFINITION. The meanings of the DisplayController family (41_display.md): DISP_INIT, FILL, CLEAR, UPDATE_SCREEN,
GOTOXY, PUTC, PUTS, TOGGLE_INVERT, INVERT_DISPLAY, the four scrolls and STOP_SCROLL. -/

namespace Sys2Proof.Machine

/-- DISP_INIT as a bus command (41 R123): the probe at ADDR_L, then every byte of INIT_SEQ in its own command
transaction. -/
def dispInitCmd (P : Params) (l : Latch) : BusCmd :=
  { probe := some { a8 := l.addr, trials := Config.initReadyTrials, budget := l.toFlag },
    items := P.initSeq.bytes.map (cmdX l), report := .dispInit }

/-- DISP_INIT (41 R123). -/
def execDispInit (s : State) : Host.Outcome State Fault Refusal :=
  inExec s fun l p => busStep Config.params true (dispInitCmd Config.params l) l p s

/-- The byte FILL writes (41 R124, 10 R27). -/
def fillByte : Color → Byte
  | .white => 0xFF
  | .black => 0x00

/-- Every byte of FB set to `b` (41 R124). -/
def fillCells (b : Byte) : Memory := (List.range Config.fbBytes).map fun i => (i, b)

/-- FILL (41 R124). -/
def execFill (c : Color) (s : State) : Host.Outcome State Fault Refusal :=
  inExec s fun _ _ => { s with fb := fillCells (fillByte c) }.complete .ok 0 0

/-- CLEAR (41 R125). -/
def execClear (s : State) : Host.Outcome State Fault Refusal :=
  inExec s fun _ _ => { s with fb := fillCells 0x00 }.complete .ok 0 0

/-- The transactions of page `p` of UPDATE_SCREEN (41 R126): PAGE_CMD(p), the bytes of COL_CMDS, the page's data. -/
def pageItems (P : Params) (l : Latch) (p : Nat) : List Xact :=
  cmdX l (P.pageCmd p) :: (P.colCmds.map (cmdX l) ++ [dataX l p])

/-- UPDATE_SCREEN as a bus command (41 R126). -/
def updateScreenCmd (P : Params) (l : Latch) : BusCmd :=
  { probe := none, items := (List.range Config.pages).flatMap (pageItems P l), report := .plain }

/-- UPDATE_SCREEN (41 R126). -/
def execUpdateScreen (s : State) : Host.Outcome State Fault Refusal :=
  inExec s fun l p => busStep Config.params true (updateScreenCmd Config.params l) l p s

/-- `min(max(v, 0), top)` (41 R127). -/
def clampTo (top : Nat) (v : Int) : BitVec 16 := BitVec.ofNat 16 (min (max v 0).toNat top)

/-- GOTOXY (41 R127). -/
def execGotoXY (s : State) : Host.Outcome State Fault Refusal :=
  inExec s fun l _ =>
    { s with cursor := { cx := clampTo (Config.width - 1) (lowS16 l.arg0),
                         cy := clampTo (Config.height - 1) (highS16 l.arg0) } }.complete .ok 0 0

/-- The glyph's bytes, zero past the `fh * ((fw + 7) >> 3)` bytes it has (10 R38, 42 R162). -/
def glyphBitmap (f : Font) (ch : Byte) (k : Nat) : Byte :=
  if k < f.fh * ((f.fw + 7) / 8) then f.glyph ch k else 0

/-- Where the glyph goes (41 R128): at the cursor, or at the start of the next line when `cx + fw > W`. -/
def glyphCorner (f : Font) (cur : Cursor) : Nat × Nat :=
  if cur.cx.toNat + f.fw > Config.width then (0, cur.cy.toNat + f.fh) else (cur.cx.toNat, cur.cy.toNat)

/-- The points of the glyph's set bits at its corner (41 R128). -/
def glyphPoints (f : Font) (ch : Byte) (at_ : Nat × Nat) : List Point :=
  bitmapPoints (glyphBitmap f ch) ((at_.1 : Int), (at_.2 : Int)) f.fw f.fh

/-- `PutGlyph(ch)` (41 R128): none is `fail`, with nothing written. -/
def putGlyph (f : Font) (c : Color) (ch : Byte) (s : State) : Option State :=
  let n := glyphCorner f s.cursor
  if n.2 + f.fh > Config.height then none
  else
    some { plotAll c (glyphPoints f ch n) s with
      cursor := { cx := BitVec.ofNat 16 (n.1 + f.fw), cy := BitVec.ofNat 16 n.2 } }

/-- PUTC with the font of its slot (41 R129); an absent font is operand-illegal (30 R78). -/
def putcStep (font : Option Font) (c : Color) (l : Latch) (s : State) : State :=
  match font with
  | none => s.complete .illegalCommand 0 0
  | some f =>
    match putGlyph f c l.char s with
    | none => s.complete .bufferExhausted (charResult l.char) 0
    | some t => t.complete .ok 0 0

/-- PUTC (41 R129). -/
def execPutc (c : Color) (slot : Nat) (s : State) : Host.Outcome State Fault Refusal :=
  inExec s fun l _ => putcStep (Config.params.font slot) c l s

/-- The loop of PUTS from STAGE[k] (41 R130): it ends at a 0x00, after STAGE[255], or at the first character that
does not fit. `fuel` is the number of STAGE bytes from `k` on. -/
def putsLoop (f : Font) (c : Color) : Nat → Nat → State → State
  | 0, _, s => s.complete .ok 0 0
  | fuel + 1, k, s =>
    let ch := s.readByte .stage k
    if ch = 0x00 then s.complete .ok 0 0
    else
      match putGlyph f c ch s with
      | none => s.complete .bufferExhausted (charResult ch) 0
      | some t => putsLoop f c fuel (k + 1) t

/-- PUTS with the font of its slot (41 R130); an absent font is operand-illegal (30 R78). -/
def putsStep (font : Option Font) (c : Color) (l : Latch) (s : State) : State :=
  match font with
  | none => s.complete .illegalCommand 0 0
  | some f => putsLoop f c (Config.stageBytes - l.off0) l.off0 s

/-- PUTS (41 R130). -/
def execPuts (c : Color) (slot : Nat) (s : State) : Host.Outcome State Fault Refusal :=
  inExec s fun l _ => putsStep (Config.params.font slot) c l s

/-- The invert command byte (41 R131, R132). -/
def invertByte (P : Params) (on : Bool) : Byte := if on then P.invOnCmd else P.invOffCmd

/-- A display command of these command bytes, one `CmdX` each (41 R121, R122). -/
def displayCmd (l : Latch) (bs : List Byte) (r : Report) : BusCmd :=
  { probe := none, items := bs.map (cmdX l), report := r }

/-- TOGGLE_INVERT as a bus command (41 R131): `nv` is the complement of INVERTED, which the command does not write
before it succeeds. -/
def toggleInvertCmd (P : Params) (l : Latch) (s : State) : BusCmd :=
  displayCmd l [invertByte P (!s.status.inverted)] (.invert (!s.status.inverted))

/-- TOGGLE_INVERT (41 R131). -/
def execToggleInvert (s : State) : Host.Outcome State Fault Refusal :=
  inExec s fun l p => busStep Config.params true (toggleInvertCmd Config.params l s) l p s

/-- INVERT_DISPLAY as a bus command (41 R132). -/
def invertDisplayCmd (P : Params) (flag : Bool) (l : Latch) : BusCmd :=
  displayCmd l [invertByte P flag] (.invert flag)

/-- INVERT_DISPLAY (41 R132). -/
def execInvertDisplay (flag : Bool) (s : State) : Host.Outcome State Fault Refusal :=
  inExec s fun l p => busStep Config.params true (invertDisplayCmd Config.params flag l) l p s

/-- One item of `Expand(t, s, e)` (41 R133). -/
def expandItem (s e : Byte) : TemplateItem → Byte
  | .byte b => b
  | .startRow => s
  | .endRow => e

/-- `Scroll(k)` as a bus command (41 R133): rows are sent as given, unchecked. -/
def scrollCmd (t : List TemplateItem) (l : Latch) : BusCmd :=
  displayCmd l (t.map (expandItem l.startRow l.endRow)) .plain

/-- SCROLL_RIGHT (41 R134). -/
def execScrollRight (s : State) : Host.Outcome State Fault Refusal :=
  inExec s fun l p => busStep Config.params true (scrollCmd Config.params.scrollRight l) l p s

/-- SCROLL_LEFT (41 R135). -/
def execScrollLeft (s : State) : Host.Outcome State Fault Refusal :=
  inExec s fun l p => busStep Config.params true (scrollCmd Config.params.scrollLeft l) l p s

/-- SCROLL_DIAG_RIGHT (41 R136). -/
def execScrollDiagRight (s : State) : Host.Outcome State Fault Refusal :=
  inExec s fun l p => busStep Config.params true (scrollCmd Config.params.scrollDiagRight l) l p s

/-- SCROLL_DIAG_LEFT (41 R137). -/
def execScrollDiagLeft (s : State) : Host.Outcome State Fault Refusal :=
  inExec s fun l p => busStep Config.params true (scrollCmd Config.params.scrollDiagLeft l) l p s

/-- STOP_SCROLL as a bus command (41 R138). -/
def stopScrollCmd (P : Params) (l : Latch) : BusCmd := displayCmd l P.stopScrollSeq .plain

/-- STOP_SCROLL (41 R138). -/
def execStopScroll (s : State) : Host.Outcome State Fault Refusal :=
  inExec s fun l p => busStep Config.params true (stopScrollCmd Config.params l) l p s

end Sys2Proof.Machine
end

