-- ==== Sys2Proof/Machine/Dispatch.lean ====
section
/-! DEFINITION. One arm per command of 30 R75: the engine step the command makes (40 R93). -/

namespace Sys2Proof.Machine

def exec (i : Instr) (s : State) : Host.Outcome State Fault Refusal :=
  match i with
  -- BusDriver (40_bus.md)
  | .nop => Sys2Proof.Machine.execNop s
  | .busInit duty => Sys2Proof.Machine.execBusInit duty s
  | .transmit => Sys2Proof.Machine.execTransmit s
  | .receive => Sys2Proof.Machine.execReceive s
  | .isDeviceReady => Sys2Proof.Machine.execIsDeviceReady s
  -- DisplayController (41_display.md)
  | .dispInit => Sys2Proof.Machine.execDispInit s
  | .fill c => Sys2Proof.Machine.execFill c s
  | .clear => Sys2Proof.Machine.execClear s
  | .updateScreen => Sys2Proof.Machine.execUpdateScreen s
  | .gotoXY => Sys2Proof.Machine.execGotoXY s
  | .putc c slot => Sys2Proof.Machine.execPutc c slot s
  | .puts c slot => Sys2Proof.Machine.execPuts c slot s
  | .toggleInvert => Sys2Proof.Machine.execToggleInvert s
  | .invertDisplay flag => Sys2Proof.Machine.execInvertDisplay flag s
  | .scrollRight => Sys2Proof.Machine.execScrollRight s
  | .scrollLeft => Sys2Proof.Machine.execScrollLeft s
  | .scrollDiagRight => Sys2Proof.Machine.execScrollDiagRight s
  | .scrollDiagLeft => Sys2Proof.Machine.execScrollDiagLeft s
  | .stopScroll => Sys2Proof.Machine.execStopScroll s
  -- GraphicsEngine (42_graphics.md)
  | .drawPixel c => Sys2Proof.Machine.execDrawPixel c s
  | .drawLine c => Sys2Proof.Machine.execDrawLine c s
  | .drawRect c => Sys2Proof.Machine.execDrawRect c s
  | .drawFilledRect c => Sys2Proof.Machine.execDrawFilledRect c s
  | .drawTriangle c => Sys2Proof.Machine.execDrawTriangle c s
  | .drawCircle c => Sys2Proof.Machine.execDrawCircle c s
  | .drawFilledCircle c => Sys2Proof.Machine.execDrawFilledCircle c s
  | .drawBitmap c => Sys2Proof.Machine.execDrawBitmap c s

end Sys2Proof.Machine
end

