-- ==== Sys2Proof/Machine/HostPort.lean ====
section
/-! DEFINITION. The host's accesses (20_memory.md): the address map (20 R51), the registers (10 R20..R33, R43), the FB
and STAGE windows (20 R53, R54), and the protocol violations, which are recorded in FAULTS and change nothing else
(20 R52, R55, 70 R195, 60 R171). Each access is one indivisible step (20 R57). -/

namespace Sys2Proof.Machine

/-- Bytes of an access. -/
def Width.bytes : Width → Nat
  | .b8 => 1
  | .b16 => 2
  | .b32 => 4

/-- The registers of 20 R51. -/
inductive Reg where
  | cmd
  | status
  | arg0
  | arg1
  | arg2
  | result
  | errInfo
  | tick
  | cursor
  | busCcr
  | busTrise
  | toFlag
  | toBusy
  | toStop
  | dispAddr
deriving DecidableEq, Repr

/-- What stands at an offset (20 R51): a register, a window with the RAM index, or a reserved or misaligned register
offset. -/
inductive Target where
  | reg (r : Reg)
  | window (sp : Space) (i : Nat)
  | bad
deriving DecidableEq, Repr

/-- The register at a word offset (20 R51). -/
def regAt : Nat → Option Reg
  | 0x000 => some .cmd
  | 0x004 => some .status
  | 0x008 => some .arg0
  | 0x00C => some .arg1
  | 0x010 => some .arg2
  | 0x014 => some .result
  | 0x018 => some .errInfo
  | 0x01C => some .tick
  | 0x020 => some .cursor
  | 0x024 => some .busCcr
  | 0x028 => some .busTrise
  | 0x02C => some .toFlag
  | 0x030 => some .toBusy
  | 0x034 => some .toStop
  | 0x038 => some .dispAddr
  | _ => none

/-- The host address map (20 R51): 0x400 + i is FB[i], 0x800 + i is STAGE[i]. -/
def targetAt (off : BitVec 12) : Target :=
  let o := off.toNat
  if 0x400 ≤ o ∧ o < 0x800 then .window .fb (o - 0x400)
  else if 0x800 ≤ o ∧ o < 0x900 then .window .stage (o - 0x800)
  else
    match regAt o with
    | some r => .reg r
    | none => .bad

/-- A register as the host reads it (10 R21..R33). -/
def regValue (s : State) : Reg → Word
  | .cmd => s.cmd
  | .status => statusWord s.status
  | .arg0 => s.arg0
  | .arg1 => s.arg1
  | .arg2 => s.arg2
  | .result => s.result
  | .errInfo => s.errInfo
  | .tick => s.tick
  | .cursor => cursorWord s.cursor
  | .busCcr => s.busCcr
  | .busTrise => s.busTrise
  | .toFlag => s.toFlag
  | .toBusy => s.toBusy
  | .toStop => s.toStop
  | .dispAddr => s.dispAddr.setWidth 32

/-- A write of STATUS: 1 in bit 12 clears OVERRUN, every other bit is ignored (10 R25). -/
def State.writeStatus (s : State) (v : Word) : State :=
  if v.getLsbD 12 then { s with status := { s.status with overrun := false } } else s

/-- A host write of a register: CMD is a command request (40 R92), read-only registers ignore it (10 R43), DISP_ADDR
keeps bits 7:0 (10 R33). -/
def regWrite (s : State) (v : Word) : Reg → State
  | .cmd => s.writeCmd v
  | .status => s.writeStatus v
  | .arg0 => { s with arg0 := v }
  | .arg1 => { s with arg1 := v }
  | .arg2 => { s with arg2 := v }
  | .result => s
  | .errInfo => s
  | .tick => s
  | .cursor => s
  | .busCcr => s
  | .busTrise => s
  | .toFlag => { s with toFlag := v }
  | .toBusy => { s with toBusy := v }
  | .toStop => { s with toStop := v }
  | .dispAddr => { s with dispAddr := v.setWidth 8 }

/-- The violations of an access (20 R52, R53, R55, 70 R195): none when it is admitted. A misaligned window access while
BUSY is 1 is both that of 20 R53 and that of 70 R195 (log 10). -/
def violations (s : State) (off : BitVec 12) (w : Width) (d : Dir) : List FaultRecord :=
  match targetAt off with
  | .bad => [.hostBadAccess off w d]
  | .reg _ => if w = .b32 then [] else [.hostBadAccess off w d]
  | .window _ _ =>
    (if s.status.busy then [.hostAccessWhileBusy off d] else []) ++
      (if off.toNat % w.bytes = 0 then [] else [.hostBadAccess off w d])

/-- Add records to the set FAULTS (60 R171). -/
def State.recordAll (s : State) (rs : List FaultRecord) : State := rs.foldl State.record s

/-- Hand a value, or nothing, back to the host (log 14). -/
def State.handBack (s : State) (v : Option Word) : State := { s with reply := v }

/-- An admitted host read (20 R52..R54): no side effect (20 R56). -/
def hostReadOk (s : State) (off : BitVec 12) (w : Width) : State :=
  match targetAt off with
  | .reg r => s.handBack (some (regValue s r))
  | .window sp i => s.handBack (some (wordOfBytes (s.readBytes sp i w.bytes)))
  | .bad => s.handBack none

/-- An admitted host write (20 R52..R54, R56). -/
def hostWriteOk (s : State) (off : BitVec 12) (w : Width) (v : Word) : State :=
  match targetAt off with
  | .reg r => (regWrite s v r).handBack none
  | .window sp i => (s.writeBytes sp i (bytesOfWord w.bytes v)).handBack none
  | .bad => s.handBack none

/-- A host read; a violation is recorded, changes nothing else and hands nothing back (20 R52, R55, 70 R195). -/
def hostRead (s : State) (off : BitVec 12) (w : Width) : State :=
  if violations s off w .read = [] then hostReadOk s off w
  else (s.recordAll (violations s off w .read)).handBack none

/-- A host write; a violation is recorded and changes nothing else (20 R52, R55, 70 R195). -/
def hostWrite (s : State) (off : BitVec 12) (w : Width) (v : Word) : State :=
  if violations s off w .write = [] then hostWriteOk s off w v
  else (s.recordAll (violations s off w .write)).handBack none

/-- One access to the register block. -/
def hostAccess (s : State) : HostOp → State
  | .read off w => hostRead s off w
  | .write off w v => hostWrite s off w v

/-- The offset of a platform address in the 4 KiB register block at `base`, if it lies there (20 R51). -/
def blockOffset (base addr : Nat) : Option (BitVec 12) :=
  if base ≤ addr ∧ addr < base + 0x1000 then some (BitVec.ofNat 12 (addr - base)) else none

/-- The access to the register block that a host access is, if its address lies there (20 R51). -/
def HostAccess.blockOp (base : Nat) : HostAccess → Option HostOp
  | .read addr w => (blockOffset base addr).map fun off => .read off w
  | .write addr w v => (blockOffset base addr).map fun off => .write off w v

/-- One host access with the register block at `base`. An address outside the block is none of the CORE's, so the
access changes nothing of it (log 15). -/
def hostStep (base : Nat) (acc : HostAccess) (s : State) : State :=
  match acc.blockOp base with
  | some op => hostAccess s op
  | none => s

end Sys2Proof.Machine
end

