-- ==== Sys2Proof/Machine/Agents.lean ====
section
/-! DEFINITION. One step of each agent (00 R12), and which agent moves next: the engine (40 R93), the tick source
(10 R30), the host (HostPort.lean) and the reset event (70 R190). -/

namespace Sys2Proof.Machine

/-- An accepted word that stands for no command (30 R77): ILLEGAL_COMMAND and no other effect. -/
def illegalWord (s : State) : State := s.complete .illegalCommand 0 0

/-- One engine step. In IDLE the engine has no step (60 R185); in EXEC it runs the latched command word (40 R93),
whose encoding is the first check (60 R174). -/
def engineStep (s : State) : Host.Outcome State Fault Refusal :=
  match s.eng with
  | .idle => .next s
  | .exec l _ =>
    match decode l.cmd with
    | .ok i => exec i s
    | .error _ => .next (illegalWord s)

/-- One tick: `TICK <- (TICK + 1) mod 2^32` (10 R30). -/
def tickStep (s : State) : State := { s with tick := s.tick + 1, polled := false }

/-- The engine waits in a phase and has not polled at this TICK value, so it polls before the next tick (40 R96,
log 8). -/
def owesPoll (s : State) : Bool :=
  match s.eng with
  | .exec _ (some p) => p.since.isSome && !s.polled
  | _ => false

/-- The reset event (70 R190): the reset state with RAM contents drawn anew (70 R191). What belongs to the other
agents, the events and answers still to come and the draw counters, stays (log 25). -/
def resetStep (s : State) : State :=
  { State.reset with
    schedule := s.schedule, answers := s.answers, draws := s.draws, ramDraw := s.ramDraw + 1 }

/-- The agent step taken next: the first one listed; with none listed, a tick in IDLE (log 27) and a free choice
between the engine and the tick source in EXEC (log 1). -/
def nextEvent (s : State) : Event :=
  match s.schedule with
  | e :: _ => e
  | [] =>
    match s.eng with
    | .idle => .tick
    | .exec _ _ => if Config.engineTurn s.draws then .engine else .tick

/-- The state once the next agent step has been taken off the schedule, or drawn. -/
def popEvent (s : State) : State :=
  match s.schedule with
  | _ :: es => { s with schedule := es }
  | [] =>
    match s.eng with
    | .idle => s
    | .exec _ _ => { s with draws := s.draws + 1 }

/-- A tick event: when the engine owes a poll, the engine steps and the tick stays next in line (40 R96, log 8). -/
def tickEvent (s : State) : Host.Outcome State Fault Refusal :=
  if owesPoll s then engineStep { s with schedule := .tick :: s.schedule } else .next (tickStep s)

/-- The step of the agent whose turn it is. -/
def agentStep (e : Event) (s : State) : Host.Outcome State Fault Refusal :=
  match e with
  | .host acc => .next (hostStep Config.params.base acc s)
  | .engine => engineStep s
  | .tick => tickEvent s
  | .reset => .next (resetStep s)

/-- The command word `w` accepted as a host write of CMD would (40 R92 case 3), with an engine step as the next
event. It stands for the host's write, since the CORE fetches nothing (10 R22, log 13). -/
def placeCommand (s : State) (w : Word) : State :=
  { s.accept w with schedule := .engine :: s.schedule }

end Sys2Proof.Machine
end

