-- ==== Sys2Proof/Machine/Step.lean ====
section
/-! DEFINITION. One step of the machine: the next agent's step (00 R12). -/

namespace Sys2Proof.Machine

/-- One step of the CORE with its agents. -/
def step (s : State) : Host.Outcome State Fault Refusal := agentStep (nextEvent s) (popEvent s)

/-- `s` with the command word of a table row accepted and the engine to step next, so that `step` runs exactly that
command as its first engine step (log 13). A command has 32 bits (30 R70); bits from `nbits` up are 0. -/
def State.withFetchWord (s : State) (nbits w : Nat) : State := placeCommand s (BitVec.ofNat 32 (w % 2 ^ nbits))

end Sys2Proof.Machine
end

