-- ==== Sys2Proof/Safety.lean ====
section
/-! DEFINITION. What counts as a safe state, in the terms claims use: the end of a run and its observation (70 R202),
and the machine invariant. -/

namespace Sys2Proof.Machine

/-- The engine runs a command. -/
def Engine.running : Engine → Bool
  | .idle => false
  | .exec _ _ => true

/-- The host has no access left in the schedule. -/
def hostDone (s : State) : Bool :=
  s.schedule.all fun e => match e with
    | .host _ => false
    | _ => true

/-- A final state (70 R202): the host is done, the engine is in IDLE with BUSY = 0, and no fault is recorded. -/
def State.final (s : State) : Bool :=
  hostDone s && !s.eng.running && !s.status.busy && s.faults.isEmpty

/-- The observation at a final state (70 R202): the registers as the host reads them, FB, STAGE and the bus history.
CURSOR is among the registers. -/
structure Observation where
  registers : List Word
  fb : List Byte
  stage : List Byte
  bh : List BusEvent
deriving DecidableEq, Repr

/-- The registers of 20 R51 in offset order. -/
def allRegs : List Reg :=
  [.cmd, .status, .arg0, .arg1, .arg2, .result, .errInfo, .tick, .cursor, .busCcr, .busTrise, .toFlag, .toBusy,
    .toStop, .dispAddr]

/-- What a run shows when it ends (70 R202). -/
def State.observe (s : State) : Observation :=
  { registers := allRegs.map (regValue s), fb := s.readBytes .fb 0 Config.fbBytes,
    stage := s.readBytes .stage 0 Config.stageBytes, bh := s.bh }

/-- The RAMs keep their canonical form (20 R50, 10 R34, R35). -/
def ramOk (s : State) : Prop :=
  Memory.wf Config.fbBytes s.fb = true ∧ Memory.wf Config.stageBytes s.stage = true

/-- BUSY is 1 exactly in EXEC (10 R22, R24, 40 R92, R94). -/
def busyOk (s : State) : Prop := s.status.busy = s.eng.running

/-- While a command runs, ERR, RESULT and ERR_INFO read 0 (10 R24, 70 R196). -/
def reportOk (s : State) : Prop :=
  s.status.busy = true → s.status.err = .ok ∧ s.result = 0 ∧ s.errInfo = 0

/-- The reachable range of CURSOR (10 R29): `0 <= CX <= 128`, `0 <= CY <= 63`. -/
def cursorOk (s : State) : Prop := s.cursor.cx.toNat ≤ 128 ∧ s.cursor.cy.toNat ≤ 63

/-- The halt is for good (70 R200): no command runs, ERR stays CONFIG_UNPROGRAMMABLE, CONFIGURED is 0, and the fault
`Halted` is recorded. -/
def haltOk (s : State) : Prop :=
  s.status.halted = true →
    s.eng = .idle ∧ s.status.err = .configUnprogrammable ∧ s.status.configured = false ∧ .halted ∈ s.faults

/-- FAULTS is a set: no record twice (60 R171). -/
def faultsOk (s : State) : Prop := s.faults.Nodup

/-- The machine invariant. -/
structure StateInv (s : State) : Prop where
  ram : ramOk s
  busy : busyOk s
  report : reportOk s
  cursor : cursorOk s
  halt : haltOk s
  faults : faultsOk s

/-! ### What a command keeps: the terms of the frame statements -/

/-- The command ended with `code` and `result`: ERR, RESULT, BUSY and the mode (40 R94); ERR_INFO is as before. -/
structure Ended (s t : State) (code : ErrCode) (result : Word) : Prop where
  err : t.status.err = code
  busy : t.status.busy = false
  eng : t.eng = .idle
  result : t.result = result
  info : t.errInfo = s.errInfo

/-- The status bits that neither acceptance nor completion writes (10 R41). -/
structure KeepsBits (s t : State) : Prop where
  configured : t.status.configured = s.status.configured
  dispReady : t.status.dispReady = s.status.dispReady
  inverted : t.status.inverted = s.status.inverted
  busDirty : t.status.busDirty = s.status.busDirty
  overrun : t.status.overrun = s.status.overrun
  halted : t.status.halted = s.status.halted

/-- The registers the host or the tick source writes, and CMD. -/
structure KeepsHostRegs (s t : State) : Prop where
  cmd : t.cmd = s.cmd
  arg0 : t.arg0 = s.arg0
  arg1 : t.arg1 = s.arg1
  arg2 : t.arg2 = s.arg2
  tick : t.tick = s.tick
  toFlag : t.toFlag = s.toFlag
  toBusy : t.toBusy = s.toBusy
  toStop : t.toStop = s.toStop
  dispAddr : t.dispAddr = s.dispAddr

/-- BUS_CCR and BUS_TRISE. -/
structure KeepsSpeed (s t : State) : Prop where
  busCcr : t.busCcr = s.busCcr
  busTrise : t.busTrise = s.busTrise

/-- The bus history, the fault records and the other agents' fields: what a command without bus use keeps. -/
structure KeepsOutside (s t : State) : Prop where
  bh : t.bh = s.bh
  faults : t.faults = s.faults
  schedule : t.schedule = s.schedule
  answers : t.answers = s.answers
  draws : t.draws = s.draws
  ramDraw : t.ramDraw = s.ramDraw
  reply : t.reply = s.reply
  polled : t.polled = s.polled

/-- Every byte of a RAM reads as before. -/
def KeepsRam (sp : Space) (s t : State) : Prop := ∀ a, t.readByte sp a = s.readByte sp a

/-- All that a command keeps which writes only its report, FB, STAGE or CURSOR. -/
structure KeepsRest (s t : State) : Prop where
  bits : KeepsBits s t
  hostRegs : KeepsHostRegs s t
  speed : KeepsSpeed s t
  outside : KeepsOutside s t

/-! ### Which commands use the bus, and how -/

/-- The commands that use the bus (40 R109). -/
def usesBus : Instr → Bool
  | .transmit | .receive | .isDeviceReady | .dispInit | .updateScreen | .toggleInvert | .invertDisplay _
  | .scrollRight | .scrollLeft | .scrollDiagRight | .scrollDiagLeft | .stopScroll => true
  | _ => false

/-- The bus command an instruction runs as. -/
def busCmdOf (i : Instr) (l : Latch) (s : State) : Option BusCmd :=
  match i with
  | .transmit => some (transmitCmd l)
  | .receive => some (receiveCmd l)
  | .isDeviceReady => some (isDeviceReadyCmd l)
  | .dispInit => some (dispInitCmd Config.params l)
  | .updateScreen => some (updateScreenCmd Config.params l)
  | .toggleInvert => some (toggleInvertCmd Config.params l s)
  | .invertDisplay q => some (invertDisplayCmd Config.params q l)
  | .scrollRight => some (scrollCmd Config.params.scrollRight l)
  | .scrollLeft => some (scrollCmd Config.params.scrollLeft l)
  | .scrollDiagRight => some (scrollCmd Config.params.scrollDiagRight l)
  | .scrollDiagLeft => some (scrollCmd Config.params.scrollDiagLeft l)
  | .stopScroll => some (stopScrollCmd Config.params l)
  | _ => none

/-- The transaction in progress at a position: a trial of the probe, or an item of the list (40 R108, 41 R122). -/
def InXact (c : BusCmd) (p : Pos) (x : Xact) : Prop :=
  match p.job with
  | .probe _ _ => ∃ pr, c.probe = some pr ∧ x = .probe pr.a8
  | .item k => c.items[k]? = some x

/-- The tick at which the transaction in progress began, once the poll at hand is made: a first poll of BUSY_WAIT, or
of START from the second trial on, begins it (40 R96, R99, R108). -/
def xactStart (s : State) (p : Pos) : Word :=
  match p.since, p.phase, p.job with
  | none, .busyWait, _ => s.tick
  | none, .start, .probe k _ => if 1 < k then s.tick else p.origin
  | _, _, _ => p.origin

/-- The tick the budget of the phase counts from, once the poll at hand is made (40 R96, R98). -/
def budgetStart (s : State) (p : Pos) : Word :=
  match p.since with
  | some tp => tp
  | none => if Config.params.timeoutOrigin = .phaseStart then s.tick else xactStart s p

/-- The pending result once the poll at hand is made: the first poll of a START puts the trial's number into bits 31:16
of IS_DEVICE_READY's (10 R26, 40 R108). -/
def pollPending (i : Instr) (p : Pos) : Word :=
  match p.since, p.phase, p.job with
  | none, .start, .probe k _ => if i = .isDeviceReady then BitVec.ofNat 16 k ++ 0#16 else p.pending
  | _, _, _ => p.pending

/-- The operand checks of 30 R78: an absent font slot, or a transfer out of STAGE (N in ARG1[8:0], OFF in ARG2[7:0]). -/
def illegalOperands (i : Instr) (l : Latch) : Prop :=
  match i with
  | .putc _ k => (Config.params.font k).isNone = true
  | .puts _ k => (Config.params.font k).isNone = true
  | .transmit => 256 < (l.arg1.extractLsb' 0 9).toNat ∨
      256 < (l.arg2.extractLsb' 0 8).toNat + (l.arg1.extractLsb' 0 9).toNat
  | .receive => (l.arg1.extractLsb' 0 9).toNat = 0 ∨ 256 < (l.arg1.extractLsb' 0 9).toNat ∨
      256 < (l.arg2.extractLsb' 0 8).toNat + (l.arg1.extractLsb' 0 9).toNat
  | _ => False

/-- The colour and the points of a DRAW command (42 R164 law 1). -/
def drawPoints (i : Instr) (l : Latch) (s : State) : Option (Color × List Point) :=
  match i with
  | .drawPixel c => some (c, [point l.arg0])
  | .drawLine c => some (c, linePoints (point l.arg0) (point l.arg1))
  | .drawRect c => some (c, rectPoints (point l.arg0) l.boxW l.boxH)
  | .drawFilledRect c => some (c, filledRectPoints (point l.arg0) l.boxW l.boxH)
  | .drawTriangle c => some (c, trianglePoints (point l.arg0) (point l.arg1) (point l.arg2))
  | .drawCircle c => some (c, circlePoints (point l.arg0) l.radius)
  | .drawFilledCircle c => some (c, filledCirclePoints (point l.arg0) l.radius)
  | .drawBitmap c => some (c, bitmapPoints (stageBitmap s l.off2) (point l.arg0) l.boxW l.boxH)
  | _ => none

/-! ### The string of PUTS (41 R130) -/

/-- The characters of the string from STAGE[k]: up to the first 0x00, at most `fuel` of them. -/
def stageString (s : State) : Nat → Nat → List Byte
  | 0, _ => []
  | fuel + 1, k =>
    if s.readByte .stage k = 0x00 then [] else s.readByte .stage k :: stageString s fuel (k + 1)

/-- Draw characters until one does not fit; the second component is the one that did not. -/
def drawString (f : Font) (c : Color) : List Byte → State → State × Option Byte
  | [], s => (s, none)
  | ch :: rest, s =>
    match putGlyph f c ch s with
    | none => (s, some ch)
    | some t => drawString f c rest t

/-! ### A transaction under a prompt ENV (95 section 0) -/

/-- The polls of a transaction when every first poll gets its answer: BUSY_WAIT, START, ADDR, one per byte, STOP. -/
def xactPolls (x : Xact) : Nat := x.length + 4

/-- The answers of a prompt ENV to a write transaction. -/
def promptAnswers (x : Xact) : List Answer :=
  [.idle, .startDone, .ack] ++ List.replicate x.length .byteDone ++ [.stopDone]

/-- What a write transaction adds to BH under a prompt ENV (40 R99, 10 R37). -/
def writeHistory (s : State) (a8 : Byte) (pl : Payload) : List BusEvent :=
  [.got .idle, .act .start, .got .startDone, .act (.addr (addrByte a8 false)), .got .ack] ++
    (List.range pl.length).flatMap (fun i => [.act (.tx (pl.byteAt s i)), .got .byteDone]) ++
    [.act .stop, .got .stopDone]

/-- The history of a transaction of a list of writes. -/
def xactHistory (s : State) : Xact → List BusEvent
  | .write a8 pl => writeHistory s a8 pl
  | _ => []

/-- The answers of a prompt ENV to a read transaction that brings the bytes `vs`. -/
def readAnswers (vs : List Byte) : List Answer :=
  [.idle, .startDone, .ack] ++ vs.map .byteIn ++ [.stopDone]

/-- What a read transaction adds to BH under a prompt ENV (40 R101). -/
def readHistory (a8 : Byte) (vs : List Byte) : List BusEvent :=
  [.got .idle, .act .start, .got .startDone, .act (.addr (addrByte a8 true)), .got .ack] ++
    (vs.zipIdx.flatMap fun v => [.act (.rx (decide (v.2 + 1 < vs.length))), .got (.byteIn v.1)]) ++
    [.act .stop, .got .stopDone]

end Sys2Proof.Machine
end

