-- ==== Sys2Proof/Certificates/Slice0/Obligations.lean ====
section
/-! DEFINITION. The statements for the provers, each a Prop about the model, with the rule of spec/ it formalises. The
frame terms (Ended, KeepsRest, ...) and the per-command tables (busCmdOf, drawPoints, illegalOperands) are in
Safety.lean. No statement rests on the value of a free draw or of an OPEN parameter. -/

open Sys2Proof Sys2Proof.Machine

/-! ## Encoding (30_encoding.md) -/

/-- Words of 95 section 2.1 and 2.2 decode to the commands they stand for, or are rejected by name (30 R71..R77). -/
def Obligations.DecodesTheVectorWords : Prop :=
  decode 0x00000000#32 = .ok .nop ∧ decode 0x00000801#32 = .ok (.busInit true) ∧
  decode 0x00000003#32 = .ok .receive ∧ decode 0x00000111#32 = .ok (.fill .white) ∧
  decode 0x00000615#32 = .ok (.putc .black 3) ∧ decode 0x00000316#32 = .ok (.puts .white 1) ∧
  decode 0x00000818#32 = .ok (.invertDisplay true) ∧ decode 0x0000001B#32 = .ok .scrollDiagRight ∧
  decode 0x00000020#32 = .ok (.drawPixel .black) ∧ decode 0x00000127#32 = .ok (.drawBitmap .white) ∧
  decode 0x00000005#32 = .error .unassignedOp ∧ decode 0x00000112#32 = .error .strayBits ∧
  decode 0x80000000#32 = .error .strayBits

/-- Decoding the word of a well-formed instruction gives it back, with every field at every value (30 R71..R76). -/
def Obligations.DecodeOfEncodeIsTheInstruction : Prop :=
  ∀ i : Instr, i.wf = true → decode (encode i) = .ok i

/-- A word that decodes is the one word of its instruction, and the instruction is well formed (30 R76: at most one row
matches and every other bit is fixed). -/
def Obligations.EncodeOfDecodeIsTheWord : Prop :=
  ∀ (w : Word) (i : Instr), decode w = .ok i → encode i = w ∧ i.wf = true

/-- 30 R76: a word is legal iff some row satisfies `(w & mask) == match`; the rows are disjoint; OP selects the row and
the word is legal iff all bits outside the row's admitted fields are 0. -/
def Obligations.LegalWordsAreTheRowsWords : Prop :=
  (∀ w : Word, (∃ i, decode w = .ok i) ↔ ∃ r ∈ opcodeRows, (w &&& r.format.mask) = r.matchWord) ∧
  (∀ w : Word, ∀ r ∈ opcodeRows, ∀ r' ∈ opcodeRows, (w &&& r.format.mask) = r.matchWord →
    (w &&& r'.format.mask) = r'.matchWord → r.op = r'.op ∧ r.format = r'.format) ∧
  (∀ w : Word, ∀ r ∈ opcodeRows, r.op = fieldOp w →
    ((∃ i, decode w = .ok i) ↔ (w &&& ~~~(0xFF#32 ||| r.format.admitted)) = 0#32))

/-- 30 R77: which words are illegal, and that an accepted illegal word completes with ILLEGAL_COMMAND and no other
effect. The OPs are written out from 30 R75. -/
def Obligations.IllegalWordsCompleteWithNoOtherEffect : Prop :=
  (∀ w : Word, (∃ e, decode w = .error e) ↔
    ¬ ((fieldOp w).toNat ≤ 0x04 ∨ (0x10 ≤ (fieldOp w).toNat ∧ (fieldOp w).toNat ≤ 0x1D) ∨
        (0x20 ≤ (fieldOp w).toNat ∧ (fieldOp w).toNat ≤ 0x27)) ∨
    ∃ r ∈ opcodeRows, r.op = fieldOp w ∧ (w &&& ~~~(0xFF#32 ||| r.format.admitted)) ≠ 0#32) ∧
  (∀ (s : State) (l : Latch) (p : Option Pos) (e : Reject), s.eng = .exec l p → decode l.cmd = .error e →
    ∃ t, engineStep s = .next t ∧ Ended s t .illegalCommand 0 ∧ KeepsRest s t ∧ t.cursor = s.cursor ∧
      t.fb = s.fb ∧ t.stage = s.stage)

/-- 30 R78: a legal word whose latched operands fail a check completes at its first step with ILLEGAL_COMMAND and no
other effect, and no other operand is ever illegal. That ERR reads 0 while a command runs is 10 R24. -/
def Obligations.OperandChecksDecideIllegality : Prop :=
  ∀ (i : Instr) (s : State) (l : Latch), s.eng = .exec l none → s.status.err = .ok →
    (illegalOperands i l → ∃ t, exec i s = .next t ∧ Ended s t .illegalCommand 0 ∧ KeepsRest s t ∧
      t.cursor = s.cursor ∧ t.fb = s.fb ∧ t.stage = s.stage) ∧
    (¬ illegalOperands i l → ∀ t, exec i s = .next t → t.status.err ≠ .illegalCommand)

/-! ## The command life cycle (40 section 2) -/

/-- The engine's step on a decoded word is `exec` of its instruction: as the next listed event, as a free turn (with
whatever the free choice says), and right after `withFetchWord` (40 R93). A host event at BASE plus an offset of the 4
KiB block is the access at that offset, and one outside the block changes nothing of the CORE (20 R51, log 15). The
schedule, the free turn and `withFetchWord` are the model's choice (logs 1, 13). -/
def Obligations.StepRunsTheDecodedCommand : Prop :=
  (∀ (s : State) (l : Latch) (p : Option Pos) (i : Instr) (rest : List Event), s.eng = .exec l p →
    s.schedule = .engine :: rest → decode l.cmd = .ok i → step s = exec i { s with schedule := rest }) ∧
  (∀ (s : State) (l : Latch) (p : Option Pos) (i : Instr), s.eng = .exec l p → s.schedule = [] →
    decode l.cmd = .ok i →
    step s = if Config.engineTurn s.draws then exec i { s with draws := s.draws + 1 }
      else tickEvent { s with draws := s.draws + 1 }) ∧
  (∀ (s : State) (w : Nat) (i : Instr), w < 2 ^ 32 → decode (BitVec.ofNat 32 w) = .ok i →
    step (s.withFetchWord 32 w) = exec i (s.accept (BitVec.ofNat 32 w))) ∧
  (∀ (s : State) (rest : List Event) (off : BitVec 12) (w : Width),
    s.schedule = .host (.read (Config.params.base + off.toNat) w) :: rest →
    step s = .next (hostAccess { s with schedule := rest } (.read off w))) ∧
  (∀ (s : State) (rest : List Event) (off : BitVec 12) (w : Width) (v : Word),
    s.schedule = .host (.write (Config.params.base + off.toNat) w v) :: rest →
    step s = .next (hostAccess { s with schedule := rest } (.write off w v))) ∧
  (∀ (s : State) (rest : List Event) (addr : Nat) (w : Width) (v : Word),
    addr < Config.params.base ∨ Config.params.base + 4096 ≤ addr →
    s.schedule = .host (.read addr w) :: rest ∨ s.schedule = .host (.write addr w v) :: rest →
    step s = .next { s with schedule := rest })

/-- No agent's step ever stops the machine: illegal words, errors and the halt are next states (60 R170, R173), and
that the machine goes on after a fault record is the model's reading of 60 R171 (log 6). With nothing listed in IDLE
the next state is a tick's, the model's choice (log 27). In EXEC every command has a step; in IDLE the engine has none
(40 R93, 60 R185), and that a meaning asked for there stops is the model's choice (log 11). -/
def Obligations.EveryStepAnswersANextState : Prop :=
  (∀ s : State, ∃ t, step s = .next t) ∧
  (∀ (i : Instr) (s : State) (l : Latch) (p : Option Pos), s.eng = .exec l p → ∃ t, exec i s = .next t) ∧
  (∀ (i : Instr) (s : State), s.eng = .idle → exec i s = .fault .engineIdle)

/-- 40 R92: the three cases of a host write of CMD; case 3 written out with everything it latches, which is also what
`State.accept` does. That a write hands nothing back (`reply`) is the model's own field (log 14), not the rule's. -/
def Obligations.CommandWriteHasThreeCases : Prop :=
  ∀ (s : State) (v : Word),
    (s.status.halted = true → hostAccess s (.write 0x000 .b32 v) = { s with reply := none }) ∧
    (s.status.halted = false → s.status.busy = true →
      hostAccess s (.write 0x000 .b32 v) =
        { s with status := { s.status with overrun := true }, reply := none }) ∧
    (s.status.halted = false → s.status.busy = false →
      hostAccess s (.write 0x000 .b32 v) =
        { s with
          cmd := v, result := 0, errInfo := 0
          status := { s.status with err := .ok, busy := true }
          eng := .exec { cmd := v, arg0 := s.arg0, arg1 := s.arg1, arg2 := s.arg2, toFlag := s.toFlag,
                         toBusy := s.toBusy, toStop := s.toStop, addr := s.dispAddr } none
          reply := none } ∧
      hostAccess s (.write 0x000 .b32 v) = { s.accept v with reply := none })

/-- 70 R196, 20 R63: what is written to ARG0..ARG2, TO_FLAG, TO_BUSY, TO_STOP and DISP_ADDR while a command runs makes
no difference to any of its steps, and the engine leaves those registers as written. -/
def Obligations.RunningCommandIgnoresLaterWrites : Prop :=
  ∀ (i : Instr) (s t : State) (a0 a1 a2 f b e : Word) (d : Byte), exec i s = .next t →
    exec i { s with arg0 := a0, arg1 := a1, arg2 := a2, toFlag := f, toBusy := b, toStop := e, dispAddr := d } =
      .next { t with arg0 := a0, arg1 := a1, arg2 := a2, toFlag := f, toBusy := b, toStop := e, dispAddr := d }

/-- 10 R21, R23, R29..R33, R41: no command writes the ARG, TO, DISP_ADDR, TICK or CMD registers; CURSOR is written only
by GOTOXY, PUTC and PUTS; BUS_CCR, BUS_TRISE and the fault records only by BUS_INIT; the events of the other agents
stay. -/
def Obligations.EngineWritesOnlyItsOwnRegisters : Prop :=
  ∀ (i : Instr) (s t : State), exec i s = .next t →
    KeepsHostRegs s t ∧ t.schedule = s.schedule ∧ t.reply = s.reply ∧ t.ramDraw = s.ramDraw ∧
    ((∀ c k, i ≠ .putc c k) → (∀ c k, i ≠ .puts c k) → i ≠ .gotoXY → t.cursor = s.cursor) ∧
    ((∀ q, i ≠ .busInit q) → KeepsSpeed s t ∧ t.faults = s.faults)

/-- 10 R41, R25, 60 R176: the writers of every STATUS field, over every command, every host access and the tick. BUSY
and ERR change only by completion and by acceptance; OVERRUN is set only by a CMD write made while BUSY is 1 and
cleared only by a 1 in bit 12 of a STATUS write; INVERTED changes only with a success, DISP_READY is set only with one;
BUS_DIRTY is set only with a timeout. -/
def Obligations.StatusBitsHaveTheirWriters : Prop :=
  (∀ (i : Instr) (s t : State), exec i s = .next t →
    ((∀ q, i ≠ .busInit q) →
      t.status.configured = s.status.configured ∧ t.status.halted = s.status.halted ∧
        (s.status.busDirty = true → t.status.busDirty = true)) ∧
    (i ≠ .dispInit → t.status.dispReady = s.status.dispReady) ∧
    (i ≠ .toggleInvert → (∀ q, i ≠ .invertDisplay q) → t.status.inverted = s.status.inverted) ∧
    t.status.overrun = s.status.overrun ∧
    (s.status.halted = true → t.status.halted = true) ∧
    (s.status.busDirty = false → t.status.busDirty = true → t.status.err = .busTimeout) ∧
    (t.eng = .idle → t.status.busy = false) ∧
    (t.eng ≠ .idle → t.status = s.status) ∧
    (t.status.inverted ≠ s.status.inverted → t.eng = .idle ∧ t.status.err = .ok) ∧
    (s.status.dispReady = false → t.status.dispReady = true → t.eng = .idle ∧ t.status.err = .ok) ∧
    (s.status.dispReady = true → t.status.dispReady = false →
      t.eng = .idle ∧ (t.status.err = .busTimeout ∨ t.status.err = .deviceNotReady))) ∧
  (∀ (s : State) (op : HostOp),
    (hostAccess s op).status.configured = s.status.configured ∧
    (hostAccess s op).status.dispReady = s.status.dispReady ∧
    (hostAccess s op).status.inverted = s.status.inverted ∧
    (hostAccess s op).status.busDirty = s.status.busDirty ∧
    (hostAccess s op).status.halted = s.status.halted ∧
    ((hostAccess s op).status.busy ≠ s.status.busy ∨ (hostAccess s op).status.err ≠ s.status.err →
      s.status.halted = false ∧ s.status.busy = false ∧ (∃ v, op = .write 0x000 .b32 v) ∧
        (hostAccess s op).status.busy = true ∧ (hostAccess s op).status.err = .ok) ∧
    (s.status.overrun = false → (hostAccess s op).status.overrun = true →
      s.status.halted = false ∧ s.status.busy = true ∧ ∃ v, op = .write 0x000 .b32 v) ∧
    (s.status.overrun = true → (hostAccess s op).status.overrun = false →
      ∃ v : Word, op = .write 0x004 .b32 v ∧ v.getLsbD 12 = true)) ∧
  ∀ s : State, (tickStep s).status = s.status

/-! ## BusDriver commands (40 section 4) -/

/-- 40 R103: the word 0 is NOP, which completes with ERR and RESULT 0 and changes nothing else, whatever CONFIGURED is;
OP 0x00 with any of bits 31:8 set is not NOP and completes with ILLEGAL_COMMAND. -/
def Obligations.NopOnlyReports : Prop :=
  (∀ (s : State) (l : Latch) (p : Option Pos), s.eng = .exec l p →
    ∃ t, exec .nop s = .next t ∧ Ended s t .ok 0 ∧ KeepsRest s t ∧ t.cursor = s.cursor ∧ t.fb = s.fb ∧
      t.stage = s.stage) ∧
  decode 0#32 = .ok .nop ∧
  (∀ (s : State) (l : Latch) (p : Option Pos), s.eng = .exec l p → fieldOp l.cmd = 0x00#8 →
    l.cmd.extractLsb' 8 24 ≠ 0#24 → ∃ t, engineStep s = .next t ∧ Ended s t .illegalCommand 0 ∧ KeepsRest s t)

/-- 40 R104, R105: BUS_INIT programs the speed registers from PCLK and FREQ, or halts the CORE leaving them unchanged,
as the OPEN predicate BUS_PROGRAMMABLE says; after the halt every CMD write is dropped. -/
def Obligations.BusInitProgramsOrHalts : Prop :=
  ∀ (q : Bool) (s : State) (l : Latch) (p : Option Pos), s.eng = .exec l p →
    ∃ t, exec (.busInit q) s = .next t ∧
      KeepsHostRegs s t ∧ t.cursor = s.cursor ∧ t.fb = s.fb ∧ t.stage = s.stage ∧ t.bh = s.bh ∧
      t.schedule = s.schedule ∧ t.answers = s.answers ∧ t.draws = s.draws ∧ t.ramDraw = s.ramDraw ∧
      t.reply = s.reply ∧ t.polled = s.polled ∧
      t.status.dispReady = s.status.dispReady ∧ t.status.inverted = s.status.inverted ∧
      t.status.overrun = s.status.overrun ∧
      if Config.params.busProgrammable l.arg0 l.arg1 q then
        Ended s t .ok 0 ∧ t.busCcr = Config.params.ccrFn l.arg0 l.arg1 q ∧
          t.busTrise = Config.params.triseFn l.arg0 l.arg1 ∧ t.status.configured = true ∧
          t.status.busDirty = false ∧ t.status.halted = s.status.halted ∧ t.faults = s.faults
      else
        Ended s t .configUnprogrammable 0 ∧ KeepsSpeed s t ∧ t.status.configured = false ∧
          t.status.busDirty = s.status.busDirty ∧ t.status.halted = true ∧ .halted ∈ t.faults ∧
          (∀ r, r ∈ t.faults ↔ r ∈ s.faults ∨ r = .halted) ∧
          ∀ v, hostAccess t (.write 0x000 .b32 v) = { t with reply := none }

/-- 70 R200: once HALTED is 1 no step but reset moves the CORE on: CMD writes are dropped without OVERRUN, ERR stays
CONFIG_UNPROGRAMMABLE and the fault stays recorded; reset leaves the state. `StateInv` is the machine invariant. -/
def Obligations.TheHaltIsForGood : Prop :=
  (∀ s t : State, StateInv s → s.status.halted = true → nextEvent s ≠ .reset → step s = .next t →
    t.status.halted = true ∧ t.status.err = .configUnprogrammable ∧ t.eng = .idle ∧ .halted ∈ t.faults ∧
      t.cmd = s.cmd ∧ (t.status.overrun = true → s.status.overrun = true)) ∧
  (∀ s : State, (resetStep s).status.halted = false)

/-- 40 R109: a bus command whose operands are legal completes at its first step with NOT_CONFIGURED and no other effect
when CONFIGURED is 0. -/
def Obligations.BusCommandsNeedConfiguration : Prop :=
  ∀ (i : Instr) (s : State) (l : Latch), usesBus i = true → s.eng = .exec l none → ¬ illegalOperands i l →
    s.status.configured = false →
    ∃ t, exec i s = .next t ∧ Ended s t .notConfigured 0 ∧ KeepsRest s t ∧ t.cursor = s.cursor ∧ t.fb = s.fb ∧
      t.stage = s.stage

/-- 40 R100: the address byte keeps bits 7:1 of the operand and puts the direction in bit 0; the operand's bit 0 is
ignored. -/
def Obligations.AddressByteCarriesDirection : Prop :=
  ∀ (a8 : Byte) (r : Bool), (addrByte a8 r).getLsbD 0 = r ∧
    ∀ k, 1 ≤ k → (addrByte a8 r).getLsbD k = a8.getLsbD k

/-- 40 R91, R95: the budget of each phase, for every bus command and every transaction of it. -/
def Obligations.BudgetsFollowThePhase : Prop :=
  ∀ (i : Instr) (l : Latch) (s : State) (c : BusCmd) (p : Pos), busCmdOf i l s = some c →
    (p.phase = .busyWait → phaseBudget c l p = l.toBusy) ∧
    (p.phase = .stop → phaseBudget c l p = l.toStop) ∧
    (p.phase = .data → phaseBudget c l p = l.toFlag) ∧
    (p.phase = .start ∨ p.phase = .addr → i ≠ .isDeviceReady → phaseBudget c l p = l.toFlag) ∧
    (p.phase = .start ∨ p.phase = .addr → i = .isDeviceReady → ∀ k acked, p.job = .probe k acked →
      phaseBudget c l p = l.arg2)

/-- 40 R96, R97, R98, R102, R108, 41 R123: a poll of a phase, its first or a later one, whose answer does not end the
phase. With at most the budget elapsed the wait goes on, and the position keeps all but what a first poll settles: the
tick the budget counts from, the transaction's start tick, and the trial number in IS_DEVICE_READY's pending result.
With more the command ends with BUS_TIMEOUT, BUS_DIRTY set, that pending result and the info, and DISP_INIT's
DISP_READY cleared; INVERTED and the other bits stay. A later poll makes no action, so its timeout emits no STOP (what
a first poll emits is a statement of its own). That its answer is not recorded in BH either, so that BH is unchanged,
is the model's reading of 10 R37 (log 9). That ENV's answers stand in `answers` and `draws`, one used up per poll, and
that `polled` notes the poll, is the model's form (logs 2, 8); that an answer of another phase counts as none is its
choice (log 12). -/
def Obligations.UnansweredPollWaitsOrTimesOut : Prop :=
  ∀ (i : Instr) (s : State) (l : Latch) (p : Pos) (c : BusCmd) (x : Xact),
    s.eng = .exec l (some p) → busCmdOf i l s = some c → InXact c p x → wanted x p.phase s.nextAnswer = false →
    ∃ t, exec i s = .next t ∧ t.fb = s.fb ∧ t.stage = s.stage ∧ t.cursor = s.cursor ∧ KeepsHostRegs s t ∧
      KeepsSpeed s t ∧ t.faults = s.faults ∧ (p.since ≠ none → t.bh = s.bh) ∧ t.polled = true ∧
      t.answers = s.answers.tail ∧ t.draws = (if s.answers = [] then s.draws + 1 else s.draws) ∧
      if (s.tick - budgetStart s p).toNat ≤ (phaseBudget c l p).toNat then
        t.eng = .exec l (some { p with since := some (budgetStart s p), origin := xactStart s p,
                                       pending := pollPending i p }) ∧
          t.status = s.status ∧ t.result = s.result ∧ t.errInfo = s.errInfo
      else
        t.eng = .idle ∧ t.result = pollPending i p ∧ t.errInfo = timeoutInfo p.phase p.byte p.xact ∧
          t.status = { s.status with
            err := .busTimeout, busy := false, busDirty := true
            dispReady := if i = .dispInit then false else s.status.dispReady }

/-- 40 R95, R96, R99, R101, R108, 41 R122, R123: which answers end a phase, and what follows. An answer in `want` ends
the phase whatever has elapsed, and the next phase of the transaction follows, its first poll still to come; the STOP
of a transaction that is not the last, and of an acknowledged probe before the list, leads to BUSY_WAIT of the next
item, counted one up. `nack` ends the ADDR of a probe trial only, `busy` ends nothing, and that an answer of another
phase ends nothing is the model's choice (log 12). A poll that is not its phase's first makes no action, and BH grows
by the answer alone, in every phase and whatever follows (10 R37; that BH records the answers that ended a phase, and
no others, is the model's reading, log 9). That ENV's answer is the head of the list `answers`, or with none listed a
free draw, and leaves the list, is the model's form (log 2). -/
def Obligations.AnsweredPhaseLeadsToTheNext : Prop :=
  (∀ (x : Xact) (ph : Phase) (a : Answer), wanted x ph a = true ↔
    (ph = .busyWait ∧ a = .idle) ∨ (ph = .start ∧ a = .startDone) ∨
    (ph = .addr ∧ (a = .ack ∨ (a = .nack ∧ ∃ a8, x = .probe a8))) ∨
    (ph = .data ∧ ((a = .byteDone ∧ ∃ a8 pl, x = .write a8 pl) ∨
      ((∃ v, a = .byteIn v) ∧ ∃ a8 off n, x = .read a8 off n))) ∨
    (ph = .stop ∧ a = .stopDone)) ∧
  (∀ (i : Instr) (s : State) (l : Latch) (p : Pos) (c : BusCmd) (x : Xact),
    s.eng = .exec l (some p) → busCmdOf i l s = some c → InXact c p x →
    wanted x p.phase s.nextAnswer = true → p.phase ≠ .stop →
    ∃ t q, exec i s = .next t ∧ t.eng = .exec l (some q) ∧ t.status = s.status ∧ t.result = s.result ∧
      t.errInfo = s.errInfo ∧ t.answers = s.answers.tail ∧ q.since = none ∧ q.xact = p.xact ∧
      q.origin = xactStart s p ∧
      match p.phase with
      | .busyWait => q.phase = .start ∧ q.job = p.job ∧ q.byte = p.byte ∧ q.pending = pollPending i p
      | .start => q.phase = .addr ∧ q.job = p.job ∧ q.byte = p.byte ∧ q.pending = pollPending i p
      | .addr =>
        q.phase = (if x.length = 0 then .stop else .data) ∧ q.byte = p.byte ∧ q.pending = pollPending i p ∧
          q.job = (match p.job with
            | .probe k _ => .probe k (decide (s.nextAnswer = .ack))
            | .item k => .item k)
      | .data =>
        q.job = p.job ∧
          q.pending = (if i = .transmit ∨ i = .receive then 0#23 ++ BitVec.ofNat 9 (p.byte + 1) else p.pending) ∧
          if p.byte + 1 < x.length then q.phase = .data ∧ q.byte = p.byte + 1 else q.phase = .stop
      | .stop => True) ∧
  (∀ s : State, s.nextAnswer = (match s.answers with
    | a :: _ => a
    | [] => Config.freeAnswer s.draws)) ∧
  (∀ (i : Instr) (s : State) (l : Latch) (p : Pos) (c : BusCmd) (x : Xact) (tp : Word),
    s.eng = .exec l (some p) → busCmdOf i l s = some c → InXact c p x → wanted x p.phase s.nextAnswer = true →
    p.since = some tp → ∃ t, exec i s = .next t ∧ t.bh = s.bh ++ [.got s.nextAnswer]) ∧
  (∀ (i : Instr) (s : State) (l : Latch) (p : Pos) (c : BusCmd) (x y : Xact) (n : Nat),
    s.eng = .exec l (some p) → busCmdOf i l s = some c → InXact c p x → p.phase = .stop → s.nextAnswer = .stopDone →
    (∃ k, p.job = .item k ∧ n = k + 1) ∨ ((∃ k, p.job = .probe k true) ∧ n = 0) → c.items[n]? = some y →
    ∃ t, exec i s = .next t ∧ t.status = s.status ∧ t.result = s.result ∧ t.errInfo = s.errInfo ∧
      t.answers = s.answers.tail ∧ t.fb = s.fb ∧ t.stage = s.stage ∧ t.cursor = s.cursor ∧
      t.eng = .exec l (some { p with job := .item n, phase := .busyWait, since := none, xact := p.xact + 1, byte := 0 }))

/-- 40 R93, R95, R98, R99, R101, R108: the first poll of a phase emits the phase's action, and BH grows by that action
and, if the answer ended the phase, by the answer. A TRANSMIT byte is the STAGE byte of that moment (20 R63; that it is
read then is the model's reading, log 24); a RECEIVE acknowledges every byte but the last. The budget counts from this
poll, or from the transaction's first step, as the OPEN TIMEOUT_ORIGIN says. A command that passed its checks makes its
first poll, BUSY_WAIT of trial 1 or of item 0, in its first engine step, the model's reading (log 7). That BH records
an answer only when it ended its phase is the model's reading (log 9). -/
def Obligations.FirstPollEmitsThePhaseAction : Prop :=
  (∀ (i : Instr) (s : State) (l : Latch) (p : Pos) (c : BusCmd) (x : Xact),
    s.eng = .exec l (some p) → busCmdOf i l s = some c → InXact c p x → p.since = none →
    ∃ (t : State) (act got : List BusEvent), exec i s = .next t ∧ t.bh = s.bh ++ act ++ got ∧
      (got = if wanted x p.phase s.nextAnswer then [.got s.nextAnswer] else []) ∧
      (∀ q, got = [] → t.eng = .exec l (some q) →
        q.since = some (if Config.params.timeoutOrigin = .phaseStart then s.tick else q.origin) ∧
          q.origin = xactStart s p) ∧
      match p.phase with
      | .busyWait => act = []
      | .start => act = [.act .start]
      | .addr => act = [.act (.addr (match x with
          | .probe a8 => addrByte a8 false
          | .write a8 _ => addrByte a8 false
          | .read a8 _ _ => addrByte a8 true))]
      | .data => match x with
        | .probe _ => act = []
        | .write _ (.stage off _) => act = [.act (.tx (s.readByte .stage (off + p.byte)))]
        | .write _ pl => act = [.act (.tx (pl.byteAt s p.byte))]
        | .read _ _ n => act = [.act (.rx (decide (p.byte + 1 < n)))]
      | .stop => act = [.act .stop]) ∧
  (∀ (i : Instr) (s : State) (l : Latch) (c : BusCmd), s.eng = .exec l none → busCmdOf i l s = some c →
    ¬ illegalOperands i l → s.status.configured = true → (∀ pr, c.probe = some pr → 0 < pr.trials) →
    exec i s = exec i { s with
      eng := .exec l (some { job := if c.probe = none then .item 0 else .probe 1 false, phase := .busyWait,
                             since := none, origin := 0, xact := 0, byte := 0, pending := 0 }) })

/-- 10 R28: the fields of ERR_INFO of a timeout. PHASE is the phase's code, BYTE_INDEX is the payload index for DATA
and 0 otherwise, XACT_INDEX saturates at 255, all other bits are 0. A payload has at most 257 bytes (40 R99). -/
def Obligations.TimeoutInfoHasItsFields : Prop :=
  ∀ (ph : Phase) (byte xact : Nat), byte ≤ 256 →
    (timeoutInfo ph byte xact).extractLsb' 0 4 = (match ph with
      | .busyWait => 1#4
      | .start => 2#4
      | .addr => 3#4
      | .data => 4#4
      | .stop => 5#4) ∧
    (timeoutInfo ph byte xact).extractLsb' 4 4 = 0#4 ∧
    ((timeoutInfo ph byte xact).extractLsb' 8 9).toNat = (if ph = .data then byte else 0) ∧
    (timeoutInfo ph byte xact).extractLsb' 17 7 = 0#7 ∧
    ((timeoutInfo ph byte xact).extractLsb' 24 8).toNat = min xact 255

/-- 40 R106, R107, 10 R26: TRANSMIT and RECEIVE complete with OK when the STOP of their transaction is answered, with
the pending count in RESULT; each DATA phase that ends counts one byte, and RECEIVE stores the byte it got. A position
past the one transaction has nothing left and completes too. That is the model's choice for a position no run reaches
(log 19). The count stands in RESULT[8:0] with every other bit 0 (10 R26). Each command is one transaction of the
operands' address, count and offset (30 R74). -/
def Obligations.TransfersCountTheirBytes : Prop :=
  (∀ (l : Latch) (s : State),
    busCmdOf .transmit l s = some { probe := none, report := .bytes, items := [.write (l.arg0.extractLsb' 0 8)
      (.stage (l.arg2.extractLsb' 0 8).toNat (l.arg1.extractLsb' 0 9).toNat)] } ∧
    busCmdOf .receive l s = some { probe := none, report := .bytes, items := [.read (l.arg0.extractLsb' 0 8)
      (l.arg2.extractLsb' 0 8).toNat (l.arg1.extractLsb' 0 9).toNat] }) ∧
  ∀ (i : Instr) (s : State) (l : Latch) (p : Pos), i = .transmit ∨ i = .receive → s.eng = .exec l (some p) →
    (∀ k, p.job = .item k → p.phase = .stop → s.nextAnswer = .stopDone →
      ∃ t, exec i s = .next t ∧ Ended s t .ok p.pending ∧ KeepsBits s t ∧ t.fb = s.fb ∧ t.stage = s.stage ∧
        t.cursor = s.cursor) ∧
    (i = .transmit → p.job = .item 0 → p.phase = .data → s.nextAnswer = .byteDone →
      ∃ t q, exec i s = .next t ∧ t.eng = .exec l (some q) ∧ q.pending = 0#23 ++ BitVec.ofNat 9 (p.byte + 1) ∧
        t.fb = s.fb ∧ t.stage = s.stage) ∧
    (∀ v, i = .receive → p.job = .item 0 → p.phase = .data → s.nextAnswer = .byteIn v → l.off2 + p.byte < 256 →
      ∃ t q, exec i s = .next t ∧ t.eng = .exec l (some q) ∧ q.pending = 0#23 ++ BitVec.ofNat 9 (p.byte + 1) ∧
        t.readByte .stage (l.off2 + p.byte) = v ∧
        (∀ a, a ≠ l.off2 + p.byte → t.readByte .stage a = s.readByte .stage a) ∧ t.fb = s.fb)

/-- 40 R108: IS_DEVICE_READY. No trial: DEVICE_NOT_READY with no bus action and RESULT 0. At the STOP of trial k: an
acknowledged trial completes OK with READY set beside the pending trial number; a `nack` starts trial k + 1 at its
START, or after the last trial completes DEVICE_NOT_READY. A trial's START puts its number into bits 31:16 of the
pending result, all other bits 0 (10 R26). The probe is at the operand's address, of the operand's trials and budget,
with no list of transactions after it. -/
def Obligations.PresenceProbeCountsItsTrials : Prop :=
  ∀ (s : State) (l : Latch),
    busCmdOf .isDeviceReady l s =
      some { probe := some ⟨l.arg0.extractLsb' 0 8, (l.arg1.extractLsb' 0 16).toNat, l.arg2⟩, items := [],
             report := .trials } ∧
    (s.eng = .exec l none → s.status.configured = true → (l.arg1.extractLsb' 0 16).toNat = 0 →
      ∃ t, exec .isDeviceReady s = .next t ∧ Ended s t .deviceNotReady 0 ∧ KeepsRest s t ∧ t.fb = s.fb ∧
        t.stage = s.stage ∧ t.cursor = s.cursor) ∧
    (∀ (p : Pos) (k : Nat) (acked : Bool), s.eng = .exec l (some p) → p.job = .probe k acked → p.phase = .stop →
      s.nextAnswer = .stopDone →
      ∃ t, exec .isDeviceReady s = .next t ∧ KeepsBits s t ∧ t.fb = s.fb ∧ t.stage = s.stage ∧
        if acked then Ended s t .ok (p.pending ||| 1#32)
        else if k < (l.arg1.extractLsb' 0 16).toNat then
          ∃ q, t.eng = .exec l (some q) ∧ q.job = .probe (k + 1) false ∧ q.phase = .start ∧ q.since = none ∧
            q.xact = p.xact + 1 ∧ t.status = s.status
        else Ended s t .deviceNotReady p.pending) ∧
    (∀ (p : Pos) (k : Nat) (acked : Bool), s.eng = .exec l (some p) → p.job = .probe k acked → p.phase = .start →
      p.since = none → s.nextAnswer = .startDone →
      ∃ t q, exec .isDeviceReady s = .next t ∧ t.eng = .exec l (some q) ∧ q.phase = .addr ∧ q.job = p.job ∧
        q.pending = BitVec.ofNat 16 k ++ 0#16) ∧
    (∀ (p : Pos) (k : Nat) (acked : Bool), s.eng = .exec l (some p) → p.job = .probe k acked → p.phase = .addr →
      s.nextAnswer = .ack ∨ s.nextAnswer = .nack →
      ∃ t q, exec .isDeviceReady s = .next t ∧ t.eng = .exec l (some q) ∧ q.phase = .stop ∧
        q.job = .probe k (decide (s.nextAnswer = .ack)))

/-! ## DisplayController commands (41_display.md) -/

/-- 41 R123: when the STOP of DISP_INIT's last transaction is answered it completes with OK, DISP_READY and READY set;
a probe whose one trial (INIT_READY_TRIALS is 1, log 18) was not acknowledged completes DEVICE_NOT_READY with
DISP_READY cleared. FB, CURSOR and INVERTED stay. A position past the last transaction completes as well, the model's choice (log 19). -/
def Obligations.DisplayInitReportsReadiness : Prop :=
  ∀ (s : State) (l : Latch) (p : Pos), s.eng = .exec l (some p) → p.phase = .stop → s.nextAnswer = .stopDone →
    (∀ k, p.job = .item k → (dispInitCmd Config.params l).items.length ≤ k + 1 →
      ∃ t, exec .dispInit s = .next t ∧ Ended s t .ok (p.pending ||| 1#32) ∧ t.status.dispReady = true ∧
        t.status.inverted = s.status.inverted ∧ t.fb = s.fb ∧ t.stage = s.stage ∧ t.cursor = s.cursor) ∧
    (∀ k, p.job = .probe k false → 1 ≤ k →
      ∃ t, exec .dispInit s = .next t ∧ Ended s t .deviceNotReady p.pending ∧ t.status.dispReady = false ∧
        t.status.inverted = s.status.inverted ∧ t.fb = s.fb ∧ t.stage = s.stage ∧ t.cursor = s.cursor)

/-- 41 R131, R132: when the STOP of the invert command is answered, TOGGLE_INVERT flips INVERTED and INVERT_DISPLAY
sets it to its flag; both complete with OK and FB is not changed. The command byte is the OPEN INV_ON_CMD or
INV_OFF_CMD of the new value. A position past the transaction completes as well, the model's choice (log 19). -/
def Obligations.InvertCommandsSetInverted : Prop :=
  (∀ (s : State) (l : Latch) (p : Pos) (k : Nat), s.eng = .exec l (some p) → p.job = .item k → p.phase = .stop →
    s.nextAnswer = .stopDone →
    (∃ t, exec .toggleInvert s = .next t ∧ Ended s t .ok p.pending ∧
      t.status.inverted = !s.status.inverted ∧ t.status.dispReady = s.status.dispReady ∧ t.fb = s.fb ∧
      t.stage = s.stage ∧ t.cursor = s.cursor) ∧
    (∀ q, ∃ t, exec (.invertDisplay q) s = .next t ∧ Ended s t .ok p.pending ∧ t.status.inverted = q ∧
      t.status.dispReady = s.status.dispReady ∧ t.fb = s.fb ∧ t.stage = s.stage ∧ t.cursor = s.cursor)) ∧
  (∀ (s : State) (l : Latch) (q : Bool),
    (toggleInvertCmd Config.params l s).items = [.write l.addr (.literal [0x00#8,
      if s.status.inverted then Config.params.invOffCmd else Config.params.invOnCmd])] ∧
    (invertDisplayCmd Config.params q l).items = [.write l.addr (.literal [0x00#8,
      if q then Config.params.invOnCmd else Config.params.invOffCmd])])

/-- 41 R122, R126, R134..R138: UPDATE_SCREEN, the four scrolls and STOP_SCROLL complete with OK when the STOP of their
last transaction is answered, and change no status bit, FB, STAGE or CURSOR. A position past the last transaction
completes as well, the model's choice (log 19). A command without a probe whose OPEN byte sequence is empty completes
with OK at its first step, with no bus action, no answer of ENV used and nothing else changed, the model's reading
(log 23). The last clause says so under any parameters. -/
def Obligations.UpdateAndScrollsComplete : Prop :=
  (∀ (i : Instr) (s : State) (l : Latch) (p : Pos) (c : BusCmd) (k : Nat),
    i = .updateScreen ∨ i = .scrollRight ∨ i = .scrollLeft ∨ i = .scrollDiagRight ∨ i = .scrollDiagLeft ∨
      i = .stopScroll →
    s.eng = .exec l (some p) → busCmdOf i l s = some c → p.job = .item k → c.items.length ≤ k + 1 →
    p.phase = .stop → s.nextAnswer = .stopDone →
    ∃ t, exec i s = .next t ∧ Ended s t .ok p.pending ∧ KeepsBits s t ∧ t.fb = s.fb ∧ t.stage = s.stage ∧
      t.cursor = s.cursor) ∧
  (∀ (i : Instr) (s : State) (l : Latch) (c : BusCmd), s.eng = .exec l none → busCmdOf i l s = some c →
    c.probe = none → c.items = [] → s.status.configured = true →
    ∃ t, exec i s = .next t ∧ Ended s t .ok 0 ∧ KeepsRest s t ∧ t.fb = s.fb ∧ t.stage = s.stage ∧
      t.cursor = s.cursor) ∧
  (∀ (P : Params) (c : BusCmd) (l : Latch) (s : State), c.probe = none → c.items = [] → s.status.configured = true →
    ∃ t, busStep P true c l none s = t ∧ Ended s t .ok 0 ∧ KeepsRest s t ∧ t.fb = s.fb ∧ t.stage = s.stage ∧
      t.cursor = s.cursor)

/-- 41 R121, R123, R126, R133, R138: the transactions of DISP_INIT, UPDATE_SCREEN, the scrolls and STOP_SCROLL.
DISP_INIT probes ADDR_L once with the generic budget (INIT_READY_TRIALS is 1, log 18) and then sends the bytes of
INIT_SEQ, groups in the source's order, each in a transaction of its own. UPDATE_SCREEN makes 8 data transactions of
129 bytes, page p's after PAGE_CMD(p) and COL_CMDS, each command byte in a transaction of its own; the scrolls send
their expanded template. -/
def Obligations.DisplaySequencesAreTheirTransactions : Prop :=
  (∀ (l : Latch) (s : State) (c : BusCmd), busCmdOf .updateScreen l s = some c →
    c.items.length = 8 * (2 + Config.params.colCmds.length) ∧
    (c.items.filter fun x => x.length = 129).length = 8 ∧
    ∀ p, p < 8 →
      c.items[p * (2 + Config.params.colCmds.length)]? =
        some (.write l.addr (.literal [0x00#8, Config.params.pageCmd p])) ∧
      (∀ j, (hj : j < Config.params.colCmds.length) →
        c.items[p * (2 + Config.params.colCmds.length) + 1 + j]? =
          some (.write l.addr (.literal [0x00#8, Config.params.colCmds[j]]))) ∧
      c.items[p * (2 + Config.params.colCmds.length) + 1 + Config.params.colCmds.length]? =
        some (.write l.addr (.page p))) ∧
  (∀ (l : Latch) (s : State) (c : BusCmd), busCmdOf .dispInit l s = some c →
    c.probe = some { a8 := l.addr, trials := 1, budget := l.toFlag } ∧
    c.items = (let q := Config.params.initSeq
      q.displayOff.command :: q.displayOff.args ++ q.clockDivide.command :: q.clockDivide.args ++
      q.multiplexRatio.command :: q.multiplexRatio.args ++ q.displayOffset.command :: q.displayOffset.args ++
      q.chargePump.command :: q.chargePump.args ++ q.segmentRemap.command :: q.segmentRemap.args ++
      q.comPins.command :: q.comPins.args ++ q.contrast.command :: q.contrast.args ++
      q.displayOn.command :: q.displayOn.args).map fun b => .write l.addr (.literal [0x00#8, b])) ∧
  (∀ (s : State) (b : Byte), (Payload.literal [0x00#8, b]).length = 2 ∧
    (Payload.literal [0x00#8, b]).byteAt s 0 = 0x00#8 ∧ (Payload.literal [0x00#8, b]).byteAt s 1 = b) ∧
  (∀ (a8 : Byte) (pl : Payload) (off n : Nat), (Xact.write a8 pl).length = pl.length ∧
    (Xact.read a8 off n).length = n ∧ (Xact.probe a8).length = 0 ∧ (Payload.stage off n).length = n) ∧
  (∀ (s : State) (p : Nat), (Payload.page p).length = 129 ∧ (Payload.page p).byteAt s 0 = 0x40#8 ∧
    ∀ k, k < 128 → (Payload.page p).byteAt s (k + 1) = s.readByte .fb (128 * p + k)) ∧
  (∀ (l : Latch) (s : State) (i : Instr) (tpl : List TemplateItem),
    (i = .scrollRight ∧ tpl = Config.params.scrollRight) ∨ (i = .scrollLeft ∧ tpl = Config.params.scrollLeft) ∨
      (i = .scrollDiagRight ∧ tpl = Config.params.scrollDiagRight) ∨
      (i = .scrollDiagLeft ∧ tpl = Config.params.scrollDiagLeft) →
    ∃ c, busCmdOf i l s = some c ∧ c.probe = none ∧
      c.items = tpl.map fun item => .write l.addr (.literal [0x00#8, match item with
        | .byte b => b
        | .startRow => l.arg0.extractLsb' 0 8
        | .endRow => l.arg0.extractLsb' 8 8])) ∧
  (∀ (l : Latch) (s : State), ∃ c, busCmdOf .stopScroll l s = some c ∧ c.probe = none ∧
    c.items = Config.params.stopScrollSeq.map fun b => .write l.addr (.literal [0x00#8, b]))

/-- 41 R124, R125, 10 R27: FILL (OP 0x11, format C) sets every FB byte to 0xFF for White and 0x00 for Black, CLEAR (OP
0x12, format N) to 0x00; nothing else changes but the report, whatever CONFIGURED is, and there is no bus action. -/
def Obligations.FillAndClearSetEveryByte : Prop :=
  decode 0x011#32 = .ok (.fill .black) ∧ decode 0x111#32 = .ok (.fill .white) ∧ decode 0x012#32 = .ok .clear ∧
  ∀ (s : State) (l : Latch) (p : Option Pos), s.eng = .exec l p →
    (∀ c : Color, ∃ t, exec (.fill c) s = .next t ∧ Ended s t .ok 0 ∧ KeepsRest s t ∧ t.cursor = s.cursor ∧
      t.stage = s.stage ∧ ∀ a, a < 1024 → t.readByte .fb a = if c = .white then 0xFF#8 else 0x00#8) ∧
    ∃ t, exec .clear s = .next t ∧ Ended s t .ok 0 ∧ KeepsRest s t ∧ t.cursor = s.cursor ∧ t.stage = s.stage ∧
      ∀ a, a < 1024 → t.readByte .fb a = 0x00#8

/-- 41 R127: GOTOXY (OP 0x14, format N) sets the cursor to the operands clamped to the framebuffer bounds, and nothing
else changes but the report. -/
def Obligations.GotoxyClampsTheCursor : Prop :=
  decode 0x014#32 = .ok .gotoXY ∧
  ∀ (s : State) (l : Latch) (p : Option Pos), s.eng = .exec l p →
    ∃ t, exec .gotoXY s = .next t ∧ Ended s t .ok 0 ∧ KeepsRest s t ∧ t.fb = s.fb ∧ t.stage = s.stage ∧
      (t.cursor.cx.toNat : Int) = min (max (l.arg0.extractLsb' 0 16).toInt 0) 127 ∧
      (t.cursor.cy.toNat : Int) = min (max (l.arg0.extractLsb' 16 16).toInt 0) 63

/-- 41 R128, R129, 30 R73, R74, 10 R38: PUTC of the character in ARG0[7:0] with a present font wraps when the glyph
would pass column 127, fails with the character when it would pass row 63, changing nothing else, and otherwise paints
exactly the glyph's set bits and moves the cursor by the glyph's width. Bit (i, j) of a glyph is bit 7 - (i & 7) of
its byte j * ((fw + 7) >> 3) + (i >> 3) (42 R162). Slot 0 is 11 x 18. An absent font is ILLEGAL_COMMAND (30 R78). -/
def Obligations.PutcPaintsTheGlyphOrFails : Prop :=
  (∃ f, Config.params.font 0 = some f ∧ f.fw = 11 ∧ f.fh = 18) ∧
  ∀ (c : Color) (slot : Nat) (s : State) (l : Latch) (p : Option Pos), s.eng = .exec l p →
    ∃ t, exec (.putc c slot) s = .next t ∧ KeepsRest s t ∧ t.stage = s.stage ∧
      match Config.params.font slot with
      | none => Ended s t .illegalCommand 0 ∧ t.cursor = s.cursor ∧ t.fb = s.fb
      | some f =>
        let ch : Byte := l.arg0.extractLsb' 0 8
        let wraps : Bool := decide (128 < s.cursor.cx.toNat + f.fw)
        let nx : Nat := if wraps then 0 else s.cursor.cx.toNat
        let ny : Nat := if wraps then s.cursor.cy.toNat + f.fh else s.cursor.cy.toNat
        let inGlyph : Nat → Nat → Prop := fun i j =>
          i < f.fw ∧ j < f.fh ∧ (f.glyph ch (j * ((f.fw + 7) / 8) + i / 8)).getLsbD (7 - i % 8) = true
        if 64 < ny + f.fh then
          Ended s t .bufferExhausted (ch.setWidth 32) ∧ t.cursor = s.cursor ∧ t.fb = s.fb
        else
          Ended s t .ok 0 ∧ t.cursor.cx.toNat = nx + f.fw ∧ t.cursor.cy.toNat = ny ∧
          (∀ a, (∀ i j, inGlyph i j → nx + i + (ny + j) / 8 * 128 ≠ a) → t.readByte .fb a = s.readByte .fb a) ∧
          ∀ x y : Nat, x < 128 → y < 64 →
            ((∃ i j, inGlyph i j ∧ x = nx + i ∧ y = ny + j) →
              (t.readByte .fb (x + y / 8 * 128)).getLsbD (y % 8) = decide (c = .white)) ∧
            ((¬ ∃ i j, inGlyph i j ∧ x = nx + i ∧ y = ny + j) →
              (t.readByte .fb (x + y / 8 * 128)).getLsbD (y % 8) =
                (s.readByte .fb (x + y / 8 * 128)).getLsbD (y % 8))

/-- 41 R130, 30 R73, R74: PUTS draws the characters of its STAGE string from the offset in ARG0[7:0] in order with
PutGlyph, stops at the first that does not fit with that character in RESULT, and otherwise completes with OK;
characters drawn before a failing one stay. PutGlyph is the step PUTC makes (41 R128): it fails where PUTC of that
character fails, and otherwise leaves the FB and CURSOR that PUTC leaves, and nothing else changed. -/
def Obligations.PutsDrawsItsString : Prop :=
  (∀ (c : Color) (slot : Nat) (s : State) (l : Latch) (p : Option Pos) (f : Font), s.eng = .exec l p →
    Config.params.font slot = some f →
    ∃ t, exec (.putc c slot) s = .next t ∧
      match putGlyph f c (l.arg0.extractLsb' 0 8) s with
      | none => t.status.err = .bufferExhausted
      | some u => t.status.err = .ok ∧ t.fb = u.fb ∧ t.cursor = u.cursor ∧
          u = { s with fb := u.fb, cursor := u.cursor }) ∧
  ∀ (c : Color) (slot : Nat) (s : State) (l : Latch) (p : Option Pos), s.eng = .exec l p →
    ∃ t, exec (.puts c slot) s = .next t ∧ KeepsRest s t ∧ t.stage = s.stage ∧
      match Config.params.font slot with
      | none => Ended s t .illegalCommand 0 ∧ t.cursor = s.cursor ∧ t.fb = s.fb
      | some f =>
        let off : Nat := (l.arg0.extractLsb' 0 8).toNat
        let drawn := drawString f c (stageString s (256 - off) off) s
        t.fb = drawn.1.fb ∧ t.cursor = drawn.1.cursor ∧
        match drawn.2 with
        | none => Ended s t .ok 0
        | some ch => Ended s t .bufferExhausted (ch.setWidth 32) ∧ ch ≠ 0x00#8

/-! ## GraphicsEngine commands (42_graphics.md) -/

/-- 42 R152, 10 R34: Plot sets or clears exactly bit y & 7 of FB[x + (y >> 3) * 128] for an on-screen point, every
other pixel and byte stays, and a point off the screen has no effect on any state. The last clauses spell `pixel`,
`pixelByte` and `onScreen`, in which other statements speak of the framebuffer. -/
def Obligations.PlotWritesOnePixel : Prop :=
  (∀ (c : Color) (s : State) (x y : Int),
    (0 ≤ x ∧ x < 128 ∧ 0 ≤ y ∧ y < 64 →
      (∀ u v : Nat, u < 128 → v < 64 →
        ((plot c s (x, y)).readByte .fb (u + v / 8 * 128)).getLsbD (v % 8) =
          if (u : Int) = x ∧ (v : Int) = y then decide (c = .white)
          else (s.readByte .fb (u + v / 8 * 128)).getLsbD (v % 8)) ∧
      (∀ a, a ≠ x.toNat + y.toNat / 8 * 128 → (plot c s (x, y)).readByte .fb a = s.readByte .fb a) ∧
      plot c s (x, y) = { s with fb := (plot c s (x, y)).fb }) ∧
    (¬ (0 ≤ x ∧ x < 128 ∧ 0 ≤ y ∧ y < 64) → plot c s (x, y) = s)) ∧
  ∀ (s : State) (q : Point),
    s.pixel q = (s.readByte .fb (q.1.toNat + q.2.toNat / 8 * 128)).getLsbD (q.2.toNat % 8) ∧
    pixelByte q = q.1.toNat + q.2.toNat / 8 * 128 ∧
    (onScreen q = true ↔ 0 ≤ q.1 ∧ q.1 < 128 ∧ 0 ≤ q.2 ∧ q.2 < 64)

/-- 42 R153, R164 laws 2 and 3: DRAW_PIXEL completes with OK; on the screen bit y & 7 of FB[x + (y >> 3) * 128]
becomes the colour and every other pixel stays, off the screen FB is unchanged. -/
def Obligations.DrawPixelPaintsItsPoint : Prop :=
  ∀ (c : Color) (s : State) (l : Latch) (p : Option Pos), s.eng = .exec l p →
    ∃ t, exec (.drawPixel c) s = .next t ∧ Ended s t .ok 0 ∧ KeepsRest s t ∧ t.cursor = s.cursor ∧
      t.stage = s.stage ∧
      (let x := (l.arg0.extractLsb' 0 16).toInt
       let y := (l.arg0.extractLsb' 16 16).toInt
       if 0 ≤ x ∧ x < 128 ∧ 0 ≤ y ∧ y < 64 then
         (∀ u v : Nat, u < 128 → v < 64 →
           (t.readByte .fb (u + v / 8 * 128)).getLsbD (v % 8) =
             if (u : Int) = x ∧ (v : Int) = y then decide (c = .white)
             else (s.readByte .fb (u + v / 8 * 128)).getLsbD (v % 8)) ∧
         ∀ a, a ≠ x.toNat + y.toNat / 8 * 128 → t.readByte .fb a = s.readByte .fb a
       else t.fb = s.fb)

/-- 42 R150, R164 law 1: every DRAW command completes with OK and sets exactly the on-screen pixels of its point set to
its colour; every other pixel, every FB byte without a plotted point, STAGE, CURSOR, BH and every register stay. A
triangle's points are those of its three edges (42 R158), and the operands are read as 30 R73, R74 lay them out. -/
def Obligations.DrawCommandsPaintTheirPointSet : Prop :=
  (∀ p1 p2 p3 q : Point, q ∈ trianglePoints p1 p2 p3 ↔
    q ∈ linePoints p1 p2 ∨ q ∈ linePoints p2 p3 ∨ q ∈ linePoints p3 p1) ∧
  (∀ (l : Latch) (v : Word), point v = ((v.extractLsb' 0 16).toInt, (v.extractLsb' 16 16).toInt) ∧
    l.boxW = (l.arg1.extractLsb' 0 16).toNat ∧ l.boxH = (l.arg1.extractLsb' 16 16).toNat ∧
    l.radius = (l.arg1.extractLsb' 0 16).toNat ∧ l.off2 = (l.arg2.extractLsb' 0 8).toNat) ∧
  ∀ (i : Instr) (s : State) (l : Latch) (p : Option Pos) (c : Color) (pts : List Point),
    s.eng = .exec l p → drawPoints i l s = some (c, pts) →
    ∃ t, exec i s = .next t ∧ Ended s t .ok 0 ∧ KeepsRest s t ∧ t.cursor = s.cursor ∧ t.stage = s.stage ∧
      (∀ q : Point, onScreen q = true → t.pixel q = if q ∈ pts then decide (c = .white) else s.pixel q) ∧
      (∀ a, (∀ q ∈ pts, onScreen q = true → pixelByte q ≠ a) → t.readByte .fb a = s.readByte .fb a)

/-- 42 R164 law 7: drawing the same command twice has the effect of drawing it once, on every pixel. -/
def Obligations.DrawingTwiceIsDrawingOnce : Prop :=
  ∀ (i : Instr) (s t u : State) (l : Latch) (p : Option Pos) (d : Color × List Point),
    s.eng = .exec l p → drawPoints i l s = some d → exec i s = .next t → exec i { t with eng := s.eng } = .next u →
    ∀ q : Point, onScreen q = true → u.pixel q = t.pixel q

/-- 42 R154: the line loop ends after exactly `max(dx, dy) + 1` plots; its first plot is the endpoint that is first in
the lexicographic order and its last the other; and each plot follows from the one before by the error term. At the
point i columns and j rows from the first endpoint, `err` is (j + 1) dx - (i + 1) dy; x steps iff 2 err > -dy and y
steps iff 2 err < dx. The endpoints are put in order first, so x never falls. -/
def Obligations.LineEndsAtItsEndPoint : Prop :=
  (∀ a b : Point,
    (linePoints a b).length = max (b.1 - a.1).natAbs (b.2 - a.2).natAbs + 1 ∧
    (linePoints a b).head? = some (if b.1 < a.1 ∨ (b.1 = a.1 ∧ b.2 < a.2) then b else a) ∧
    (linePoints a b).getLast? = some (if b.1 < a.1 ∨ (b.1 = a.1 ∧ b.2 < a.2) then a else b)) ∧
  ∀ (a b p q : Point) (k : Nat), a.1 < b.1 ∨ (a.1 = b.1 ∧ a.2 ≤ b.2) →
    (linePoints a b)[k]? = some p → (linePoints a b)[k + 1]? = some q →
    let dx : Int := b.1 - a.1
    let dy : Int := (b.2 - a.2).natAbs
    let sy : Int := if a.2 < b.2 then 1 else -1
    let err : Int := (sy * (p.2 - a.2) + 1) * dx - (p.1 - a.1 + 1) * dy
    q.1 = p.1 + (if 2 * err > -dy then 1 else 0) ∧ q.2 = p.2 + (if 2 * err < dx then sy else 0)

/-- 42 R164 laws 4 and 5: a line is the same for both directions, and a line from a point to itself is that point. -/
def Obligations.LineIsSymmetricAndDegenerate : Prop :=
  (∀ a b : Point, linePoints a b = linePoints b a) ∧ ∀ a : Point, linePoints a a = [a]

/-- 42 R154, R155: no point of a line leaves the box of its endpoints; a horizontal or vertical line plots every pixel
between them. -/
def Obligations.LinesStayInTheBoxOfTheirEndpoints : Prop :=
  (∀ a b q : Point, q ∈ linePoints a b →
    min a.1 b.1 ≤ q.1 ∧ q.1 ≤ max a.1 b.1 ∧ min a.2 b.2 ≤ q.2 ∧ q.2 ≤ max a.2 b.2) ∧
  (∀ (x0 x1 y : Int) (q : Point), q ∈ linePoints (x0, y) (x1, y) ↔ q.2 = y ∧ min x0 x1 ≤ q.1 ∧ q.1 ≤ max x0 x1) ∧
  (∀ (x y0 y1 : Int) (q : Point), q ∈ linePoints (x, y0) (x, y1) ↔ q.1 = x ∧ min y0 y1 ≤ q.2 ∧ q.2 ≤ max y0 y1)

/-- 42 R156, R157: the pixel set of a filled rectangle is every point of the W' x H' box at its corner, the rectangle's
is the box's border, and a width or height of 0 draws nothing. -/
def Obligations.RectanglesAreTheirBoxAndBorder : Prop :=
  ∀ (a q : Point) (w h : Nat),
    (q ∈ filledRectPoints a w h ↔ a.1 ≤ q.1 ∧ q.1 ≤ a.1 + w - 1 ∧ a.2 ≤ q.2 ∧ q.2 ≤ a.2 + h - 1) ∧
    (q ∈ rectPoints a w h ↔
      (a.1 ≤ q.1 ∧ q.1 ≤ a.1 + w - 1 ∧ a.2 ≤ q.2 ∧ q.2 ≤ a.2 + h - 1) ∧
        (q.1 = a.1 ∨ q.1 = a.1 + w - 1 ∨ q.2 = a.2 ∨ q.2 = a.2 + h - 1))

/-- 42 R159, R164 law 6: a circle's points are the four plotted before the loop and the eight reflections of each
pass's (x, y), and the set is closed under the reflections about its centre (the three given here generate the eight).
-/
def Obligations.CircleIsEightWaySymmetric : Prop :=
  (∀ (o q : Point) (r : Nat), q ∈ circlePoints o r ↔
    q = (o.1, o.2 + r) ∨ q = (o.1, o.2 - r) ∨ q = (o.1 + r, o.2) ∨ q = (o.1 - r, o.2) ∨
      ∃ d ∈ circlePasses r,
        (q.1 = o.1 + d.1 ∨ q.1 = o.1 - d.1) ∧ (q.2 = o.2 + d.2 ∨ q.2 = o.2 - d.2) ∨
        (q.1 = o.1 + d.2 ∨ q.1 = o.1 - d.2) ∧ (q.2 = o.2 + d.1 ∨ q.2 = o.2 - d.1)) ∧
  ∀ (o : Point) (r : Nat) (dx dy : Int), (o.1 + dx, o.2 + dy) ∈ circlePoints o r →
    (o.1 - dx, o.2 + dy) ∈ circlePoints o r ∧ (o.1 + dx, o.2 - dy) ∈ circlePoints o r ∧
      (o.1 + dy, o.2 + dx) ∈ circlePoints o r

/-- 42 R159: the midpoint loop, pass by pass. From (0, r), a pass from (x, y) takes x up by 1, and y down by 1 exactly
when (x + 1)^2 + y^2 - y >= r^2, which is `f >= 0`. The loop ends by its own condition within `r` passes: after the
last one `x >= y`, and before that `x < y`. -/
def Obligations.CircleLoopEndsByItsCondition : Prop :=
  ∀ r : Nat, (circlePasses r).length ≤ r ∧ (0 < r → circlePasses r ≠ []) ∧
    (∀ d : Int × Int, (circlePasses r).getLast? = some d → d.2 ≤ d.1) ∧
    (∀ (k : Nat) (d : Int × Int), (circlePasses r)[k]? = some d → d.1 = (k : Int) + 1 ∧ d.2 ≤ (r : Int)) ∧
    (∀ (k : Nat) (p d : Int × Int), ((0, (r : Int)) :: circlePasses r)[k]? = some p → (circlePasses r)[k]? = some d →
      d = (p.1 + 1, if (r : Int) ^ 2 ≤ (p.1 + 1) ^ 2 + p.2 ^ 2 - p.2 then p.2 - 1 else p.2)) ∧
    ∀ (k : Nat) (d : Int × Int), (circlePasses r)[k]? = some d → k + 1 < (circlePasses r).length → d.1 < d.2

/-- 42 R161, R164 law 6: a filled circle's points are the four plotted before the loop, the span of the centre row and
four spans of each pass's (x, y). It contains the circle with the same operands, is closed under the same reflections,
and with radius 0 is one pixel, as the circle is. -/
def Obligations.FilledCircleContainsTheCircle : Prop :=
  (∀ (o q : Point) (r : Nat), q ∈ filledCirclePoints o r ↔
    q = (o.1, o.2 + r) ∨ q = (o.1, o.2 - r) ∨ (q.2 = o.2 ∧ o.1 - r ≤ q.1 ∧ q.1 ≤ o.1 + r) ∨
      ∃ d ∈ circlePasses r,
        (q.2 = o.2 + d.2 ∨ q.2 = o.2 - d.2) ∧ o.1 - d.1 ≤ q.1 ∧ q.1 ≤ o.1 + d.1 ∨
        (q.2 = o.2 + d.1 ∨ q.2 = o.2 - d.1) ∧ o.1 - d.2 ≤ q.1 ∧ q.1 ≤ o.1 + d.2) ∧
  (∀ (o q : Point) (r : Nat), q ∈ circlePoints o r → q ∈ filledCirclePoints o r) ∧
  (∀ (o : Point) (r : Nat) (dx dy : Int), (o.1 + dx, o.2 + dy) ∈ filledCirclePoints o r →
    (o.1 - dx, o.2 + dy) ∈ filledCirclePoints o r ∧ (o.1 + dx, o.2 - dy) ∈ filledCirclePoints o r ∧
      (o.1 + dy, o.2 + dx) ∈ filledCirclePoints o r) ∧
  ∀ o q : Point, (q ∈ filledCirclePoints o 0 ↔ q = o) ∧ (q ∈ circlePoints o 0 ↔ q = o)

/-- 42 R162, R163: a bitmap's points are the corner plus (i, j) for the set bits, the leftmost pixel of a byte being
bit 7 and rows padded to whole bytes; DRAW_BITMAP reads 0 past STAGE[255]. -/
def Obligations.BitmapPaintsItsSetBits : Prop :=
  (∀ (bm : Nat → Byte) (a q : Point) (w h : Nat), q ∈ bitmapPoints bm a w h ↔
    ∃ i j, i < w ∧ j < h ∧ q = (a.1 + (i : Int), a.2 + (j : Int)) ∧
      (bm (j * ((w + 7) / 8) + i / 8)).getLsbD (7 - i % 8) = true) ∧
  ∀ (s : State) (off k : Nat),
    stageBitmap s off k = if off + k ≤ 255 then s.readByte .stage (off + k) else 0x00#8

/-! ## Whole-machine rules -/

/-- 41 R120, R139, 42 R150: a command outside the bus list makes no bus action, asks ENV nothing and needs no
CONFIGURED: its effect is the same with it set. -/
def Obligations.OnlyBusCommandsTouchTheBus : Prop :=
  ∀ (i : Instr) (s t : State), usesBus i = false → exec i s = .next t →
    t.bh = s.bh ∧ t.answers = s.answers ∧ t.draws = s.draws ∧ t.polled = s.polled ∧
      ∀ b u, exec i { s with status := { s.status with configured := b } } = .next u →
        t.fb = u.fb ∧ t.cursor = u.cursor ∧ t.result = u.result ∧ t.status.err = u.status.err

/-- 41 R139: only UPDATE_SCREEN sends FB content. A step of every other bus command is the same step whatever FB holds,
with FB left as it is, so a whole run of it emits the same; a step of a command that is no bus command emits nothing
that depends on FB either. -/
def Obligations.OnlyUpdateScreenSendsTheFramebuffer : Prop :=
  (∀ (i : Instr) (s t : State) (m : Memory), usesBus i = true → i ≠ .updateScreen → exec i s = .next t →
    exec i { s with fb := m } = .next { t with fb := m }) ∧
  (∀ (i : Instr) (s t u : State) (m : Memory), i ≠ .updateScreen → exec i s = .next t →
    exec i { s with fb := m } = .next u → u.bh = t.bh)

/-- 60 R173, 10 R35, 40 R101: no bus command writes FB or CURSOR, whatever its outcome; STAGE is written by RECEIVE
alone, only in the DATA step that got a byte and only at OFF plus the byte's index. -/
def Obligations.BusCommandsLeaveTheFramebuffer : Prop :=
  (∀ (i : Instr) (s t : State), usesBus i = true → exec i s = .next t → t.fb = s.fb ∧ t.cursor = s.cursor) ∧
  (∀ (i : Instr) (s t : State), i ≠ .receive → exec i s = .next t → t.stage = s.stage) ∧
  (∀ (s t : State) (l : Latch) (p : Option Pos), s.eng = .exec l p → exec .receive s = .next t →
    ∀ a, (∀ q v, p = some q → q.phase = .data → s.nextAnswer = .byteIn v → a ≠ l.off2 + q.byte) →
      t.readByte .stage a = s.readByte .stage a)

/-- 40 R99, 41 R122, 95 section 0: a command that is a list of write transactions (TRANSMIT, UPDATE_SCREEN, the invert
and scroll commands), run from its first step under a prompt ENV, takes one engine step per poll, adds to BH exactly
its transactions in order with the bytes it reads from FB and STAGE, and completes with OK. The schedule and answers as
lists (logs 1, 2), the first step making the first poll (log 7) and what BH records (log 9) are the model's. -/
def Obligations.WriteCommandRunsItsTransactions : Prop :=
  ∀ (i : Instr) (s : State) (l : Latch) (c : BusCmd) (rest : List Event) (more : List Answer),
    s.eng = .exec l none → decode l.cmd = .ok i → busCmdOf i l s = some c → c.probe = none → c.items ≠ [] →
    (∀ x ∈ c.items, ∃ a8 pl, x = .write a8 pl) → s.status.configured = true → ¬ illegalOperands i l →
    s.schedule = List.replicate (c.items.map xactPolls).sum .engine ++ rest →
    s.answers = c.items.flatMap promptAnswers ++ more →
    ∃ t : State, Host.Core.run Sys2Proof.core (c.items.map xactPolls).sum s = .next t ∧
      t.bh = s.bh ++ c.items.flatMap (xactHistory s) ∧ t.eng = .idle ∧ t.status.busy = false ∧
      t.status.err = .ok ∧ t.schedule = rest ∧ t.answers = more ∧ t.fb = s.fb ∧ t.stage = s.stage ∧
      t.result = (if i = .transmit then 0#23 ++ l.arg1.extractLsb' 0 9 else 0)

/-- 40 R101, R107: RECEIVE run from its first step under an ENV that brings the bytes `vs` leaves them in STAGE from
OFF, acknowledges all but the last, counts them in RESULT, and leaves the rest of STAGE alone. The schedule and answers
as lists (logs 1, 2), the first step making the first poll (log 7) and what BH records (log 9) are the model's. -/
def Obligations.ReceiveStoresWhatItGets : Prop :=
  ∀ (s : State) (l : Latch) (vs : List Byte) (rest : List Event) (more : List Answer),
    s.eng = .exec l none → decode l.cmd = .ok .receive → vs.length = (l.arg1.extractLsb' 0 9).toNat → ¬ illegalOperands .receive l →
    s.status.configured = true → s.schedule = List.replicate (vs.length + 4) .engine ++ rest →
    s.answers = readAnswers vs ++ more →
    ∃ t : State, Host.Core.run Sys2Proof.core (vs.length + 4) s = .next t ∧
      t.bh = s.bh ++ readHistory l.addr8 vs ∧ t.eng = .idle ∧ t.status.err = .ok ∧
      t.result = 0#23 ++ BitVec.ofNat 9 vs.length ∧ t.fb = s.fb ∧
      (∀ k, (hk : k < vs.length) → t.readByte .stage (l.off2 + k) = vs[k]) ∧
      ∀ a, (a < l.off2 ∨ l.off2 + vs.length ≤ a) → t.readByte .stage a = s.readByte .stage a

/-! ## The host port (20_memory.md) -/

/-- 20 R51, R56, 10 R21..R33: an aligned 32-bit read of each register offset hands its value back and changes nothing;
DISP_ADDR reads its byte with bits 31:8 zero, CURSOR reads CX low and CY high. The field `reply` is the model's own
(log 14). -/
def Obligations.RegisterReadsHandBackTheirValue : Prop :=
  ∀ (s : State) (off : BitVec 12) (v : Word),
    (off, v) ∈ [(0x000#12, s.cmd), (0x008#12, s.arg0), (0x00C#12, s.arg1), (0x010#12, s.arg2), (0x014#12, s.result),
      (0x018#12, s.errInfo), (0x01C#12, s.tick), (0x020#12, s.cursor.cy ++ s.cursor.cx), (0x024#12, s.busCcr),
      (0x028#12, s.busTrise), (0x02C#12, s.toFlag), (0x030#12, s.toBusy), (0x034#12, s.toStop),
      (0x038#12, 0#24 ++ s.dispAddr)] →
    hostAccess s (.read off .b32) = { s with reply := some v }

/-- 10 R24, R42: STATUS as the host reads it, bit by bit; reserved bits 3:1 and 31:14 read 0. The field `reply` is the
model's own (log 14). -/
def Obligations.StatusReadsItsFields : Prop :=
  ∀ (s : State), ∃ v : Word, hostAccess s (.read 0x004 .b32) = { s with reply := some v } ∧
    v.getLsbD 0 = s.status.busy ∧ v.extractLsb' 1 3 = 0#3 ∧
    (v.extractLsb' 4 4).toNat = (match s.status.err with
      | .ok => 0
      | .busTimeout => 1
      | .deviceNotReady => 2
      | .bufferExhausted => 3
      | .illegalCommand => 4
      | .notConfigured => 5
      | .configUnprogrammable => 6) ∧
    v.getLsbD 8 = s.status.configured ∧ v.getLsbD 9 = s.status.dispReady ∧ v.getLsbD 10 = s.status.inverted ∧
    v.getLsbD 11 = s.status.busDirty ∧ v.getLsbD 12 = s.status.overrun ∧ v.getLsbD 13 = s.status.halted ∧
    v.extractLsb' 14 18 = 0#18

/-- 10 R21, R25, R32, R33, R43, 20 R51: what a 32-bit write of each register other than CMD does. ARG and TO registers
take the value, DISP_ADDR its low byte, STATUS clears OVERRUN on a 1 in bit 12 and ignores every other bit, the
read-only registers ignore the write. The field `reply` is the model's own (log 14). -/
def Obligations.RegisterWritesDoTheirOneThing : Prop :=
  ∀ (s : State) (v : Word),
    hostAccess s (.write 0x008 .b32 v) = { s with arg0 := v, reply := none } ∧
    hostAccess s (.write 0x00C .b32 v) = { s with arg1 := v, reply := none } ∧
    hostAccess s (.write 0x010 .b32 v) = { s with arg2 := v, reply := none } ∧
    hostAccess s (.write 0x02C .b32 v) = { s with toFlag := v, reply := none } ∧
    hostAccess s (.write 0x030 .b32 v) = { s with toBusy := v, reply := none } ∧
    hostAccess s (.write 0x034 .b32 v) = { s with toStop := v, reply := none } ∧
    hostAccess s (.write 0x038 .b32 v) = { s with dispAddr := v.extractLsb' 0 8, reply := none } ∧
    hostAccess s (.write 0x004 .b32 v) =
      { s with status := { s.status with overrun := s.status.overrun && !v.getLsbD 12 }, reply := none } ∧
    ∀ off ∈ [0x014#12, 0x018#12, 0x01C#12, 0x020#12, 0x024#12, 0x028#12],
      hostAccess s (.write off .b32 v) = { s with reply := none }

/-- 20 R53, R54: an 8-, 16- or 32-bit window access while BUSY is 0, aligned to its width. A read hands back the RAM
bytes little-endian, zero above the width, and changes nothing else. A write stores the value's bytes the same way,
leaves every other byte of that RAM alone, and changes nothing but that RAM (the other RAM, every register, the engine,
BH and the fault records stay). The field `reply` (log 14) and the width of the value of a narrow access (log 22) are
the model's. -/
def Obligations.WindowAccessesAreLittleEndian : Prop :=
  (Width.bytes .b8 = 1 ∧ Width.bytes .b16 = 2 ∧ Width.bytes .b32 = 4 ∧ spaceSize .fb = 1024 ∧ spaceSize .stage = 256) ∧
  ∀ (s : State) (sp : Space) (i : Nat) (w : Width), s.status.busy = false → i + w.bytes ≤ spaceSize sp →
    i % w.bytes = 0 →
    let off : BitVec 12 := BitVec.ofNat 12 ((match sp with
      | .fb => 0x400
      | .stage => 0x800) + i)
    (∃ r : Word, hostAccess s (.read off w) = { s with reply := some r } ∧
      (∀ k, k < w.bytes → r.extractLsb' (8 * k) 8 = s.readByte sp (i + k)) ∧
      ∀ k, 8 * w.bytes ≤ k → r.getLsbD k = false) ∧
    ∀ v : Word, ∃ m : Memory, hostAccess s (.write off w v) = { s.setCells sp m with reply := none } ∧
      (∀ k, k < w.bytes → (s.setCells sp m).readByte sp (i + k) = v.extractLsb' (8 * k) 8) ∧
      ∀ a, a < i ∨ i + w.bytes ≤ a → (s.setCells sp m).readByte sp a = s.readByte sp a

/-- 20 R52, R53, R55, 60 R171: an access of a width or alignment a register or window does not take, or to a reserved
offset, records HostBadAccess with its offset, width and direction and changes no CORE state. If BUSY is 1 and it hits
a window, 70 R195 makes its own record beside (log 10). That a read among them hands nothing back (`reply`) is the
model's choice (log 14), since these rules leave the response unspecified. -/
def Obligations.BadAccessesAreOnlyRecorded : Prop :=
  ∀ (s : State) (off : BitVec 12) (w : Width) (v : Word),
    (off.toNat < 0x03C ∧ (w ≠ .b32 ∨ off.toNat % 4 ≠ 0)) ∨
      (0x03C ≤ off.toNat ∧ off.toNat < 0x400) ∨ 0x900 ≤ off.toNat ∨
      (0x400 ≤ off.toNat ∧ off.toNat < 0x900 ∧
        ((w = .b16 ∧ off.toNat % 2 ≠ 0) ∨ (w = .b32 ∧ off.toNat % 4 ≠ 0))) →
    ∀ d : Dir, ∃ fs,
      hostAccess s (match d with
        | .read => .read off w
        | .write => .write off w v) = { s with faults := fs, reply := none } ∧
      ∀ r, r ∈ fs ↔ r ∈ s.faults ∨ r = .hostBadAccess off w d ∨
        (s.status.busy = true ∧ 0x400 ≤ off.toNat ∧ off.toNat < 0x900 ∧ r = .hostAccessWhileBusy off d)

/-- 70 R195: a window access while BUSY is 1, read or write, any width, records HostAccessWhileBusy, has no effect and
returns nothing. A misaligned one is HostBadAccess too (20 R53, log 10). -/
def Obligations.WindowsAreClosedWhileBusy : Prop :=
  ∀ (s : State) (off : BitVec 12) (w : Width) (v : Word), s.status.busy = true → 0x400 ≤ off.toNat →
    off.toNat < 0x900 →
    ∀ d : Dir, ∃ fs,
      hostAccess s (match d with
        | .read => .read off w
        | .write => .write off w v) = { s with faults := fs, reply := none } ∧
      .hostAccessWhileBusy off d ∈ fs ∧
      ∀ r, r ∈ fs ↔ r ∈ s.faults ∨ r = .hostAccessWhileBusy off d ∨
        (off.toNat % w.bytes ≠ 0 ∧ r = .hostBadAccess off w d)

/-! ## Tick, reset and the invariant -/

/-- 10 R30, 40 R96: a tick adds 1 to TICK modulo 2^32 and changes nothing the spec names; but while the engine waits
in a phase, its first poll made, and has not polled at this TICK value (`polled` is false), the engine polls first and
the tick stays next in line. That this is a matter of the schedule, and the field `polled`, is the model's form (log
8). A tick taken as a free turn does the same (log 1), and with nothing listed in IDLE the step is a tick (log 27). -/
def Obligations.TickCountsUnlessAPollIsDue : Prop :=
  (∀ (s : State) (rest : List Event), s.schedule = .tick :: rest →
    ((∃ l p tp, s.eng = .exec l (some p) ∧ p.since = some tp ∧ s.polled = false) → step s = engineStep s) ∧
    ((¬ ∃ l p tp, s.eng = .exec l (some p) ∧ p.since = some tp ∧ s.polled = false) →
      step s = .next { s with schedule := rest, tick := s.tick + 1, polled := false })) ∧
  (∀ s : State,
    ((∃ l p tp, s.eng = .exec l (some p) ∧ p.since = some tp ∧ s.polled = false) →
      tickEvent s = engineStep { s with schedule := .tick :: s.schedule }) ∧
    ((¬ ∃ l p tp, s.eng = .exec l (some p) ∧ p.since = some tp ∧ s.polled = false) →
      tickEvent s = .next { s with tick := s.tick + 1, polled := false })) ∧
  ∀ s : State, s.schedule = [] → s.eng = .idle → step s = .next { s with tick := s.tick + 1, polled := false }

/-- 10 R42, 70 R190, R192: the reset event, from any state, leaves every register, the engine and the histories at
their reset values; DISP_ADDR is the OPEN parameter DISP_ADDR_RESET. That DISP_ADDR_RESET is an opaque parameter is the
model's choice (log 5). -/
def Obligations.ResetLeavesTheResetValues : Prop :=
  ∀ (s : State) (rest : List Event), s.schedule = .reset :: rest →
    ∃ t, step s = .next t ∧ t.cmd = 0 ∧ t.arg0 = 0 ∧ t.arg1 = 0 ∧ t.arg2 = 0 ∧ t.result = 0 ∧ t.errInfo = 0 ∧
      t.tick = 0 ∧ t.cursor.cx = 0 ∧ t.cursor.cy = 0 ∧ t.busCcr = 0 ∧ t.busTrise = 0 ∧ t.toFlag = 35 ∧
      t.toBusy = 25 ∧ t.toStop = 5 ∧ t.dispAddr = Config.params.dispAddrReset ∧ statusWord t.status = 0 ∧
      t.eng = .idle ∧ t.bh = [] ∧ t.faults = []

/-- 70 R191: after a reset each RAM byte reads as that reset's draw until something writes it, whatever was written
before. The draw as a function of the reset's number is the model's form of the free value (log 3). -/
def Obligations.ResetDrawsTheRams : Prop :=
  ∀ (s : State) (sp : Space) (a : Nat),
    (resetStep s).readByte sp a = Config.ramAtReset sp (s.ramDraw + 1) a ∧
    State.reset.readByte sp a = Config.ramAtReset sp 0 a

/-- The machine invariant holds at reset: canonical RAMs (10 R34, R35), BUSY iff EXEC, reports 0 while busy (70 R196),
the cursor's range (10 R29), the halt (70 R200), FAULTS a set (60 R171). The canonical form is strictly rising
addresses inside the RAM (20 R50), of bytes written since reset (log 3). FAULTS as a list without repeats is the
model's form of the set (log 26). -/
def Obligations.InvariantHoldsAtReset : Prop :=
  StateInv State.reset ∧
  ∀ (n : Nat) (m : Memory), Memory.wf n m = true ↔ List.Pairwise (fun c d => c.1 < d.1) m ∧ ∀ c ∈ m, c.1 < n

/-- Every step of every agent keeps the machine invariant, from every state that meets it. FAULTS as a list without
repeats is the model's form of the set (log 26). -/
def Obligations.EveryStepKeepsTheInvariant : Prop := ∀ s t : State, StateInv s → step s = .next t → StateInv t
end

