-- ==== Sys2Proof/Laws/State.lean ====
section
/-! SUPPORT. One lemma per field per named update of the state, so that no later proof unfolds a record update. Each
update of Machine/Ops.lean has a section: what it sets, and that it leaves every other field alone. -/

namespace Sys2Proof.Machine

/-! ### Emit of an action (10 R37) -/

@[simp] theorem State.emit_cmd (s : State) (a : Action) : (s.emit a).cmd = s.cmd := rfl
@[simp] theorem State.emit_status (s : State) (a : Action) : (s.emit a).status = s.status := rfl
@[simp] theorem State.emit_arg0 (s : State) (a : Action) : (s.emit a).arg0 = s.arg0 := rfl
@[simp] theorem State.emit_arg1 (s : State) (a : Action) : (s.emit a).arg1 = s.arg1 := rfl
@[simp] theorem State.emit_arg2 (s : State) (a : Action) : (s.emit a).arg2 = s.arg2 := rfl
@[simp] theorem State.emit_result (s : State) (a : Action) : (s.emit a).result = s.result := rfl
@[simp] theorem State.emit_errInfo (s : State) (a : Action) : (s.emit a).errInfo = s.errInfo := rfl
@[simp] theorem State.emit_tick (s : State) (a : Action) : (s.emit a).tick = s.tick := rfl
@[simp] theorem State.emit_cursor (s : State) (a : Action) : (s.emit a).cursor = s.cursor := rfl
@[simp] theorem State.emit_busCcr (s : State) (a : Action) : (s.emit a).busCcr = s.busCcr := rfl
@[simp] theorem State.emit_busTrise (s : State) (a : Action) : (s.emit a).busTrise = s.busTrise := rfl
@[simp] theorem State.emit_toFlag (s : State) (a : Action) : (s.emit a).toFlag = s.toFlag := rfl
@[simp] theorem State.emit_toBusy (s : State) (a : Action) : (s.emit a).toBusy = s.toBusy := rfl
@[simp] theorem State.emit_toStop (s : State) (a : Action) : (s.emit a).toStop = s.toStop := rfl
@[simp] theorem State.emit_dispAddr (s : State) (a : Action) : (s.emit a).dispAddr = s.dispAddr := rfl
@[simp] theorem State.emit_fb (s : State) (a : Action) : (s.emit a).fb = s.fb := rfl
@[simp] theorem State.emit_stage (s : State) (a : Action) : (s.emit a).stage = s.stage := rfl
@[simp] theorem State.emit_eng (s : State) (a : Action) : (s.emit a).eng = s.eng := rfl
@[simp] theorem State.emit_bh (s : State) (a : Action) : (s.emit a).bh = s.bh ++ [.act a] := rfl
@[simp] theorem State.emit_faults (s : State) (a : Action) : (s.emit a).faults = s.faults := rfl
@[simp] theorem State.emit_schedule (s : State) (a : Action) : (s.emit a).schedule = s.schedule := rfl
@[simp] theorem State.emit_answers (s : State) (a : Action) : (s.emit a).answers = s.answers := rfl
@[simp] theorem State.emit_draws (s : State) (a : Action) : (s.emit a).draws = s.draws := rfl
@[simp] theorem State.emit_ramDraw (s : State) (a : Action) : (s.emit a).ramDraw = s.ramDraw := rfl
@[simp] theorem State.emit_reply (s : State) (a : Action) : (s.emit a).reply = s.reply := rfl
@[simp] theorem State.emit_polled (s : State) (a : Action) : (s.emit a).polled = s.polled := rfl

/-! ### Consumption of an answer (10 R37) -/

@[simp] theorem State.consume_cmd (s : State) (a : Answer) : (s.consume a).cmd = s.cmd := rfl
@[simp] theorem State.consume_status (s : State) (a : Answer) : (s.consume a).status = s.status := rfl
@[simp] theorem State.consume_arg0 (s : State) (a : Answer) : (s.consume a).arg0 = s.arg0 := rfl
@[simp] theorem State.consume_arg1 (s : State) (a : Answer) : (s.consume a).arg1 = s.arg1 := rfl
@[simp] theorem State.consume_arg2 (s : State) (a : Answer) : (s.consume a).arg2 = s.arg2 := rfl
@[simp] theorem State.consume_result (s : State) (a : Answer) : (s.consume a).result = s.result := rfl
@[simp] theorem State.consume_errInfo (s : State) (a : Answer) : (s.consume a).errInfo = s.errInfo := rfl
@[simp] theorem State.consume_tick (s : State) (a : Answer) : (s.consume a).tick = s.tick := rfl
@[simp] theorem State.consume_cursor (s : State) (a : Answer) : (s.consume a).cursor = s.cursor := rfl
@[simp] theorem State.consume_busCcr (s : State) (a : Answer) : (s.consume a).busCcr = s.busCcr := rfl
@[simp] theorem State.consume_busTrise (s : State) (a : Answer) : (s.consume a).busTrise = s.busTrise := rfl
@[simp] theorem State.consume_toFlag (s : State) (a : Answer) : (s.consume a).toFlag = s.toFlag := rfl
@[simp] theorem State.consume_toBusy (s : State) (a : Answer) : (s.consume a).toBusy = s.toBusy := rfl
@[simp] theorem State.consume_toStop (s : State) (a : Answer) : (s.consume a).toStop = s.toStop := rfl
@[simp] theorem State.consume_dispAddr (s : State) (a : Answer) : (s.consume a).dispAddr = s.dispAddr := rfl
@[simp] theorem State.consume_fb (s : State) (a : Answer) : (s.consume a).fb = s.fb := rfl
@[simp] theorem State.consume_stage (s : State) (a : Answer) : (s.consume a).stage = s.stage := rfl
@[simp] theorem State.consume_eng (s : State) (a : Answer) : (s.consume a).eng = s.eng := rfl
@[simp] theorem State.consume_bh (s : State) (a : Answer) : (s.consume a).bh = s.bh ++ [.got a] := rfl
@[simp] theorem State.consume_faults (s : State) (a : Answer) : (s.consume a).faults = s.faults := rfl
@[simp] theorem State.consume_schedule (s : State) (a : Answer) : (s.consume a).schedule = s.schedule := rfl
@[simp] theorem State.consume_answers (s : State) (a : Answer) : (s.consume a).answers = s.answers := rfl
@[simp] theorem State.consume_draws (s : State) (a : Answer) : (s.consume a).draws = s.draws := rfl
@[simp] theorem State.consume_ramDraw (s : State) (a : Answer) : (s.consume a).ramDraw = s.ramDraw := rfl
@[simp] theorem State.consume_reply (s : State) (a : Answer) : (s.consume a).reply = s.reply := rfl
@[simp] theorem State.consume_polled (s : State) (a : Answer) : (s.consume a).polled = s.polled := rfl

/-! ### The position of the running command (10 R39) -/

@[simp] theorem State.at_cmd (s : State) (l : Latch) (p : Pos) : (s.at l p).cmd = s.cmd := rfl
@[simp] theorem State.at_status (s : State) (l : Latch) (p : Pos) : (s.at l p).status = s.status := rfl
@[simp] theorem State.at_arg0 (s : State) (l : Latch) (p : Pos) : (s.at l p).arg0 = s.arg0 := rfl
@[simp] theorem State.at_arg1 (s : State) (l : Latch) (p : Pos) : (s.at l p).arg1 = s.arg1 := rfl
@[simp] theorem State.at_arg2 (s : State) (l : Latch) (p : Pos) : (s.at l p).arg2 = s.arg2 := rfl
@[simp] theorem State.at_result (s : State) (l : Latch) (p : Pos) : (s.at l p).result = s.result := rfl
@[simp] theorem State.at_errInfo (s : State) (l : Latch) (p : Pos) : (s.at l p).errInfo = s.errInfo := rfl
@[simp] theorem State.at_tick (s : State) (l : Latch) (p : Pos) : (s.at l p).tick = s.tick := rfl
@[simp] theorem State.at_cursor (s : State) (l : Latch) (p : Pos) : (s.at l p).cursor = s.cursor := rfl
@[simp] theorem State.at_busCcr (s : State) (l : Latch) (p : Pos) : (s.at l p).busCcr = s.busCcr := rfl
@[simp] theorem State.at_busTrise (s : State) (l : Latch) (p : Pos) : (s.at l p).busTrise = s.busTrise := rfl
@[simp] theorem State.at_toFlag (s : State) (l : Latch) (p : Pos) : (s.at l p).toFlag = s.toFlag := rfl
@[simp] theorem State.at_toBusy (s : State) (l : Latch) (p : Pos) : (s.at l p).toBusy = s.toBusy := rfl
@[simp] theorem State.at_toStop (s : State) (l : Latch) (p : Pos) : (s.at l p).toStop = s.toStop := rfl
@[simp] theorem State.at_dispAddr (s : State) (l : Latch) (p : Pos) : (s.at l p).dispAddr = s.dispAddr := rfl
@[simp] theorem State.at_fb (s : State) (l : Latch) (p : Pos) : (s.at l p).fb = s.fb := rfl
@[simp] theorem State.at_stage (s : State) (l : Latch) (p : Pos) : (s.at l p).stage = s.stage := rfl
@[simp] theorem State.at_eng (s : State) (l : Latch) (p : Pos) : (s.at l p).eng = .exec l (some p) := rfl
@[simp] theorem State.at_bh (s : State) (l : Latch) (p : Pos) : (s.at l p).bh = s.bh := rfl
@[simp] theorem State.at_faults (s : State) (l : Latch) (p : Pos) : (s.at l p).faults = s.faults := rfl
@[simp] theorem State.at_schedule (s : State) (l : Latch) (p : Pos) : (s.at l p).schedule = s.schedule := rfl
@[simp] theorem State.at_answers (s : State) (l : Latch) (p : Pos) : (s.at l p).answers = s.answers := rfl
@[simp] theorem State.at_draws (s : State) (l : Latch) (p : Pos) : (s.at l p).draws = s.draws := rfl
@[simp] theorem State.at_ramDraw (s : State) (l : Latch) (p : Pos) : (s.at l p).ramDraw = s.ramDraw := rfl
@[simp] theorem State.at_reply (s : State) (l : Latch) (p : Pos) : (s.at l p).reply = s.reply := rfl
@[simp] theorem State.at_polled (s : State) (l : Latch) (p : Pos) : (s.at l p).polled = s.polled := rfl

/-! ### What the host gets back -/

@[simp] theorem State.handBack_cmd (s : State) (v : Option Word) : (s.handBack v).cmd = s.cmd := rfl
@[simp] theorem State.handBack_status (s : State) (v : Option Word) : (s.handBack v).status = s.status := rfl
@[simp] theorem State.handBack_arg0 (s : State) (v : Option Word) : (s.handBack v).arg0 = s.arg0 := rfl
@[simp] theorem State.handBack_arg1 (s : State) (v : Option Word) : (s.handBack v).arg1 = s.arg1 := rfl
@[simp] theorem State.handBack_arg2 (s : State) (v : Option Word) : (s.handBack v).arg2 = s.arg2 := rfl
@[simp] theorem State.handBack_result (s : State) (v : Option Word) : (s.handBack v).result = s.result := rfl
@[simp] theorem State.handBack_errInfo (s : State) (v : Option Word) : (s.handBack v).errInfo = s.errInfo := rfl
@[simp] theorem State.handBack_tick (s : State) (v : Option Word) : (s.handBack v).tick = s.tick := rfl
@[simp] theorem State.handBack_cursor (s : State) (v : Option Word) : (s.handBack v).cursor = s.cursor := rfl
@[simp] theorem State.handBack_busCcr (s : State) (v : Option Word) : (s.handBack v).busCcr = s.busCcr := rfl
@[simp] theorem State.handBack_busTrise (s : State) (v : Option Word) : (s.handBack v).busTrise = s.busTrise := rfl
@[simp] theorem State.handBack_toFlag (s : State) (v : Option Word) : (s.handBack v).toFlag = s.toFlag := rfl
@[simp] theorem State.handBack_toBusy (s : State) (v : Option Word) : (s.handBack v).toBusy = s.toBusy := rfl
@[simp] theorem State.handBack_toStop (s : State) (v : Option Word) : (s.handBack v).toStop = s.toStop := rfl
@[simp] theorem State.handBack_dispAddr (s : State) (v : Option Word) : (s.handBack v).dispAddr = s.dispAddr := rfl
@[simp] theorem State.handBack_fb (s : State) (v : Option Word) : (s.handBack v).fb = s.fb := rfl
@[simp] theorem State.handBack_stage (s : State) (v : Option Word) : (s.handBack v).stage = s.stage := rfl
@[simp] theorem State.handBack_eng (s : State) (v : Option Word) : (s.handBack v).eng = s.eng := rfl
@[simp] theorem State.handBack_bh (s : State) (v : Option Word) : (s.handBack v).bh = s.bh := rfl
@[simp] theorem State.handBack_faults (s : State) (v : Option Word) : (s.handBack v).faults = s.faults := rfl
@[simp] theorem State.handBack_schedule (s : State) (v : Option Word) : (s.handBack v).schedule = s.schedule := rfl
@[simp] theorem State.handBack_answers (s : State) (v : Option Word) : (s.handBack v).answers = s.answers := rfl
@[simp] theorem State.handBack_draws (s : State) (v : Option Word) : (s.handBack v).draws = s.draws := rfl
@[simp] theorem State.handBack_ramDraw (s : State) (v : Option Word) : (s.handBack v).ramDraw = s.ramDraw := rfl
@[simp] theorem State.handBack_reply (s : State) (v : Option Word) : (s.handBack v).reply = v := rfl
@[simp] theorem State.handBack_polled (s : State) (v : Option Word) : (s.handBack v).polled = s.polled := rfl

/-! ### A fault record (60 R171) -/

@[simp] theorem State.record_cmd (s : State) (r : FaultRecord) : (s.record r).cmd = s.cmd := rfl
@[simp] theorem State.record_status (s : State) (r : FaultRecord) : (s.record r).status = s.status := rfl
@[simp] theorem State.record_arg0 (s : State) (r : FaultRecord) : (s.record r).arg0 = s.arg0 := rfl
@[simp] theorem State.record_arg1 (s : State) (r : FaultRecord) : (s.record r).arg1 = s.arg1 := rfl
@[simp] theorem State.record_arg2 (s : State) (r : FaultRecord) : (s.record r).arg2 = s.arg2 := rfl
@[simp] theorem State.record_result (s : State) (r : FaultRecord) : (s.record r).result = s.result := rfl
@[simp] theorem State.record_errInfo (s : State) (r : FaultRecord) : (s.record r).errInfo = s.errInfo := rfl
@[simp] theorem State.record_tick (s : State) (r : FaultRecord) : (s.record r).tick = s.tick := rfl
@[simp] theorem State.record_cursor (s : State) (r : FaultRecord) : (s.record r).cursor = s.cursor := rfl
@[simp] theorem State.record_busCcr (s : State) (r : FaultRecord) : (s.record r).busCcr = s.busCcr := rfl
@[simp] theorem State.record_busTrise (s : State) (r : FaultRecord) : (s.record r).busTrise = s.busTrise := rfl
@[simp] theorem State.record_toFlag (s : State) (r : FaultRecord) : (s.record r).toFlag = s.toFlag := rfl
@[simp] theorem State.record_toBusy (s : State) (r : FaultRecord) : (s.record r).toBusy = s.toBusy := rfl
@[simp] theorem State.record_toStop (s : State) (r : FaultRecord) : (s.record r).toStop = s.toStop := rfl
@[simp] theorem State.record_dispAddr (s : State) (r : FaultRecord) : (s.record r).dispAddr = s.dispAddr := rfl
@[simp] theorem State.record_fb (s : State) (r : FaultRecord) : (s.record r).fb = s.fb := rfl
@[simp] theorem State.record_stage (s : State) (r : FaultRecord) : (s.record r).stage = s.stage := rfl
@[simp] theorem State.record_eng (s : State) (r : FaultRecord) : (s.record r).eng = s.eng := rfl
@[simp] theorem State.record_bh (s : State) (r : FaultRecord) : (s.record r).bh = s.bh := rfl
@[simp] theorem State.record_faults (s : State) (r : FaultRecord) : (s.record r).faults = if r ∈ s.faults then s.faults else s.faults ++ [r] := rfl
@[simp] theorem State.record_schedule (s : State) (r : FaultRecord) : (s.record r).schedule = s.schedule := rfl
@[simp] theorem State.record_answers (s : State) (r : FaultRecord) : (s.record r).answers = s.answers := rfl
@[simp] theorem State.record_draws (s : State) (r : FaultRecord) : (s.record r).draws = s.draws := rfl
@[simp] theorem State.record_ramDraw (s : State) (r : FaultRecord) : (s.record r).ramDraw = s.ramDraw := rfl
@[simp] theorem State.record_reply (s : State) (r : FaultRecord) : (s.record r).reply = s.reply := rfl
@[simp] theorem State.record_polled (s : State) (r : FaultRecord) : (s.record r).polled = s.polled := rfl

/-! ### Acceptance (40 R92) -/

@[simp] theorem State.accept_cmd (s : State) (v : Word) : (s.accept v).cmd = v := rfl
@[simp] theorem State.accept_status (s : State) (v : Word) : (s.accept v).status = { s.status with err := .ok, busy := true } := rfl
@[simp] theorem State.accept_arg0 (s : State) (v : Word) : (s.accept v).arg0 = s.arg0 := rfl
@[simp] theorem State.accept_arg1 (s : State) (v : Word) : (s.accept v).arg1 = s.arg1 := rfl
@[simp] theorem State.accept_arg2 (s : State) (v : Word) : (s.accept v).arg2 = s.arg2 := rfl
@[simp] theorem State.accept_result (s : State) (v : Word) : (s.accept v).result = 0 := rfl
@[simp] theorem State.accept_errInfo (s : State) (v : Word) : (s.accept v).errInfo = 0 := rfl
@[simp] theorem State.accept_tick (s : State) (v : Word) : (s.accept v).tick = s.tick := rfl
@[simp] theorem State.accept_cursor (s : State) (v : Word) : (s.accept v).cursor = s.cursor := rfl
@[simp] theorem State.accept_busCcr (s : State) (v : Word) : (s.accept v).busCcr = s.busCcr := rfl
@[simp] theorem State.accept_busTrise (s : State) (v : Word) : (s.accept v).busTrise = s.busTrise := rfl
@[simp] theorem State.accept_toFlag (s : State) (v : Word) : (s.accept v).toFlag = s.toFlag := rfl
@[simp] theorem State.accept_toBusy (s : State) (v : Word) : (s.accept v).toBusy = s.toBusy := rfl
@[simp] theorem State.accept_toStop (s : State) (v : Word) : (s.accept v).toStop = s.toStop := rfl
@[simp] theorem State.accept_dispAddr (s : State) (v : Word) : (s.accept v).dispAddr = s.dispAddr := rfl
@[simp] theorem State.accept_fb (s : State) (v : Word) : (s.accept v).fb = s.fb := rfl
@[simp] theorem State.accept_stage (s : State) (v : Word) : (s.accept v).stage = s.stage := rfl
@[simp] theorem State.accept_eng (s : State) (v : Word) : (s.accept v).eng = .exec (s.latch v) none := rfl
@[simp] theorem State.accept_bh (s : State) (v : Word) : (s.accept v).bh = s.bh := rfl
@[simp] theorem State.accept_faults (s : State) (v : Word) : (s.accept v).faults = s.faults := rfl
@[simp] theorem State.accept_schedule (s : State) (v : Word) : (s.accept v).schedule = s.schedule := rfl
@[simp] theorem State.accept_answers (s : State) (v : Word) : (s.accept v).answers = s.answers := rfl
@[simp] theorem State.accept_draws (s : State) (v : Word) : (s.accept v).draws = s.draws := rfl
@[simp] theorem State.accept_ramDraw (s : State) (v : Word) : (s.accept v).ramDraw = s.ramDraw := rfl
@[simp] theorem State.accept_reply (s : State) (v : Word) : (s.accept v).reply = s.reply := rfl
@[simp] theorem State.accept_polled (s : State) (v : Word) : (s.accept v).polled = s.polled := rfl

/-! ### Completion (40 R94) -/

@[simp] theorem State.complete_cmd (s : State) (e : ErrCode) (r i : Word) : (s.complete e r i).cmd = s.cmd := rfl
@[simp] theorem State.complete_status (s : State) (e : ErrCode) (r i : Word) : (s.complete e r i).status = { s.status with err := e, busy := false } := rfl
@[simp] theorem State.complete_arg0 (s : State) (e : ErrCode) (r i : Word) : (s.complete e r i).arg0 = s.arg0 := rfl
@[simp] theorem State.complete_arg1 (s : State) (e : ErrCode) (r i : Word) : (s.complete e r i).arg1 = s.arg1 := rfl
@[simp] theorem State.complete_arg2 (s : State) (e : ErrCode) (r i : Word) : (s.complete e r i).arg2 = s.arg2 := rfl
@[simp] theorem State.complete_result (s : State) (e : ErrCode) (r i : Word) : (s.complete e r i).result = r := rfl
@[simp] theorem State.complete_errInfo (s : State) (e : ErrCode) (r i : Word) : (s.complete e r i).errInfo = if e = .busTimeout then i else s.errInfo := rfl
@[simp] theorem State.complete_tick (s : State) (e : ErrCode) (r i : Word) : (s.complete e r i).tick = s.tick := rfl
@[simp] theorem State.complete_cursor (s : State) (e : ErrCode) (r i : Word) : (s.complete e r i).cursor = s.cursor := rfl
@[simp] theorem State.complete_busCcr (s : State) (e : ErrCode) (r i : Word) : (s.complete e r i).busCcr = s.busCcr := rfl
@[simp] theorem State.complete_busTrise (s : State) (e : ErrCode) (r i : Word) : (s.complete e r i).busTrise = s.busTrise := rfl
@[simp] theorem State.complete_toFlag (s : State) (e : ErrCode) (r i : Word) : (s.complete e r i).toFlag = s.toFlag := rfl
@[simp] theorem State.complete_toBusy (s : State) (e : ErrCode) (r i : Word) : (s.complete e r i).toBusy = s.toBusy := rfl
@[simp] theorem State.complete_toStop (s : State) (e : ErrCode) (r i : Word) : (s.complete e r i).toStop = s.toStop := rfl
@[simp] theorem State.complete_dispAddr (s : State) (e : ErrCode) (r i : Word) : (s.complete e r i).dispAddr = s.dispAddr := rfl
@[simp] theorem State.complete_fb (s : State) (e : ErrCode) (r i : Word) : (s.complete e r i).fb = s.fb := rfl
@[simp] theorem State.complete_stage (s : State) (e : ErrCode) (r i : Word) : (s.complete e r i).stage = s.stage := rfl
@[simp] theorem State.complete_eng (s : State) (e : ErrCode) (r i : Word) : (s.complete e r i).eng = .idle := rfl
@[simp] theorem State.complete_bh (s : State) (e : ErrCode) (r i : Word) : (s.complete e r i).bh = s.bh := rfl
@[simp] theorem State.complete_faults (s : State) (e : ErrCode) (r i : Word) : (s.complete e r i).faults = s.faults := rfl
@[simp] theorem State.complete_schedule (s : State) (e : ErrCode) (r i : Word) : (s.complete e r i).schedule = s.schedule := rfl
@[simp] theorem State.complete_answers (s : State) (e : ErrCode) (r i : Word) : (s.complete e r i).answers = s.answers := rfl
@[simp] theorem State.complete_draws (s : State) (e : ErrCode) (r i : Word) : (s.complete e r i).draws = s.draws := rfl
@[simp] theorem State.complete_ramDraw (s : State) (e : ErrCode) (r i : Word) : (s.complete e r i).ramDraw = s.ramDraw := rfl
@[simp] theorem State.complete_reply (s : State) (e : ErrCode) (r i : Word) : (s.complete e r i).reply = s.reply := rfl
@[simp] theorem State.complete_polled (s : State) (e : ErrCode) (r i : Word) : (s.complete e r i).polled = s.polled := rfl

/-! ### The cells of a RAM -/

@[simp] theorem State.setCells_cmd (s : State) (sp : Space) (m : Memory) : (s.setCells sp m).cmd = s.cmd := by cases sp <;> rfl
@[simp] theorem State.setCells_status (s : State) (sp : Space) (m : Memory) : (s.setCells sp m).status = s.status := by cases sp <;> rfl
@[simp] theorem State.setCells_arg0 (s : State) (sp : Space) (m : Memory) : (s.setCells sp m).arg0 = s.arg0 := by cases sp <;> rfl
@[simp] theorem State.setCells_arg1 (s : State) (sp : Space) (m : Memory) : (s.setCells sp m).arg1 = s.arg1 := by cases sp <;> rfl
@[simp] theorem State.setCells_arg2 (s : State) (sp : Space) (m : Memory) : (s.setCells sp m).arg2 = s.arg2 := by cases sp <;> rfl
@[simp] theorem State.setCells_result (s : State) (sp : Space) (m : Memory) : (s.setCells sp m).result = s.result := by cases sp <;> rfl
@[simp] theorem State.setCells_errInfo (s : State) (sp : Space) (m : Memory) : (s.setCells sp m).errInfo = s.errInfo := by cases sp <;> rfl
@[simp] theorem State.setCells_tick (s : State) (sp : Space) (m : Memory) : (s.setCells sp m).tick = s.tick := by cases sp <;> rfl
@[simp] theorem State.setCells_cursor (s : State) (sp : Space) (m : Memory) : (s.setCells sp m).cursor = s.cursor := by cases sp <;> rfl
@[simp] theorem State.setCells_busCcr (s : State) (sp : Space) (m : Memory) : (s.setCells sp m).busCcr = s.busCcr := by cases sp <;> rfl
@[simp] theorem State.setCells_busTrise (s : State) (sp : Space) (m : Memory) : (s.setCells sp m).busTrise = s.busTrise := by cases sp <;> rfl
@[simp] theorem State.setCells_toFlag (s : State) (sp : Space) (m : Memory) : (s.setCells sp m).toFlag = s.toFlag := by cases sp <;> rfl
@[simp] theorem State.setCells_toBusy (s : State) (sp : Space) (m : Memory) : (s.setCells sp m).toBusy = s.toBusy := by cases sp <;> rfl
@[simp] theorem State.setCells_toStop (s : State) (sp : Space) (m : Memory) : (s.setCells sp m).toStop = s.toStop := by cases sp <;> rfl
@[simp] theorem State.setCells_dispAddr (s : State) (sp : Space) (m : Memory) : (s.setCells sp m).dispAddr = s.dispAddr := by cases sp <;> rfl
@[simp] theorem State.setCells_eng (s : State) (sp : Space) (m : Memory) : (s.setCells sp m).eng = s.eng := by cases sp <;> rfl
@[simp] theorem State.setCells_bh (s : State) (sp : Space) (m : Memory) : (s.setCells sp m).bh = s.bh := by cases sp <;> rfl
@[simp] theorem State.setCells_faults (s : State) (sp : Space) (m : Memory) : (s.setCells sp m).faults = s.faults := by cases sp <;> rfl
@[simp] theorem State.setCells_schedule (s : State) (sp : Space) (m : Memory) : (s.setCells sp m).schedule = s.schedule := by cases sp <;> rfl
@[simp] theorem State.setCells_answers (s : State) (sp : Space) (m : Memory) : (s.setCells sp m).answers = s.answers := by cases sp <;> rfl
@[simp] theorem State.setCells_draws (s : State) (sp : Space) (m : Memory) : (s.setCells sp m).draws = s.draws := by cases sp <;> rfl
@[simp] theorem State.setCells_ramDraw (s : State) (sp : Space) (m : Memory) : (s.setCells sp m).ramDraw = s.ramDraw := by cases sp <;> rfl
@[simp] theorem State.setCells_reply (s : State) (sp : Space) (m : Memory) : (s.setCells sp m).reply = s.reply := by cases sp <;> rfl
@[simp] theorem State.setCells_polled (s : State) (sp : Space) (m : Memory) : (s.setCells sp m).polled = s.polled := by cases sp <;> rfl

@[simp] theorem State.setCells_fb_fb (s : State) (m : Memory) : (s.setCells .fb m).fb = m := rfl
@[simp] theorem State.setCells_fb_stage (s : State) (m : Memory) : (s.setCells .fb m).stage = s.stage := rfl
@[simp] theorem State.setCells_stage_stage (s : State) (m : Memory) : (s.setCells .stage m).stage = m := rfl
@[simp] theorem State.setCells_stage_fb (s : State) (m : Memory) : (s.setCells .stage m).fb = s.fb := rfl

/-! ### A byte written to a RAM (00 R11) -/

@[simp] theorem State.writeByte_cmd (s : State) (sp : Space) (a : Nat) (v : Byte) : (s.writeByte sp a v).cmd = s.cmd := by unfold State.writeByte; split <;> simp
@[simp] theorem State.writeByte_status (s : State) (sp : Space) (a : Nat) (v : Byte) : (s.writeByte sp a v).status = s.status := by unfold State.writeByte; split <;> simp
@[simp] theorem State.writeByte_arg0 (s : State) (sp : Space) (a : Nat) (v : Byte) : (s.writeByte sp a v).arg0 = s.arg0 := by unfold State.writeByte; split <;> simp
@[simp] theorem State.writeByte_arg1 (s : State) (sp : Space) (a : Nat) (v : Byte) : (s.writeByte sp a v).arg1 = s.arg1 := by unfold State.writeByte; split <;> simp
@[simp] theorem State.writeByte_arg2 (s : State) (sp : Space) (a : Nat) (v : Byte) : (s.writeByte sp a v).arg2 = s.arg2 := by unfold State.writeByte; split <;> simp
@[simp] theorem State.writeByte_result (s : State) (sp : Space) (a : Nat) (v : Byte) : (s.writeByte sp a v).result = s.result := by unfold State.writeByte; split <;> simp
@[simp] theorem State.writeByte_errInfo (s : State) (sp : Space) (a : Nat) (v : Byte) : (s.writeByte sp a v).errInfo = s.errInfo := by unfold State.writeByte; split <;> simp
@[simp] theorem State.writeByte_tick (s : State) (sp : Space) (a : Nat) (v : Byte) : (s.writeByte sp a v).tick = s.tick := by unfold State.writeByte; split <;> simp
@[simp] theorem State.writeByte_cursor (s : State) (sp : Space) (a : Nat) (v : Byte) : (s.writeByte sp a v).cursor = s.cursor := by unfold State.writeByte; split <;> simp
@[simp] theorem State.writeByte_busCcr (s : State) (sp : Space) (a : Nat) (v : Byte) : (s.writeByte sp a v).busCcr = s.busCcr := by unfold State.writeByte; split <;> simp
@[simp] theorem State.writeByte_busTrise (s : State) (sp : Space) (a : Nat) (v : Byte) : (s.writeByte sp a v).busTrise = s.busTrise := by unfold State.writeByte; split <;> simp
@[simp] theorem State.writeByte_toFlag (s : State) (sp : Space) (a : Nat) (v : Byte) : (s.writeByte sp a v).toFlag = s.toFlag := by unfold State.writeByte; split <;> simp
@[simp] theorem State.writeByte_toBusy (s : State) (sp : Space) (a : Nat) (v : Byte) : (s.writeByte sp a v).toBusy = s.toBusy := by unfold State.writeByte; split <;> simp
@[simp] theorem State.writeByte_toStop (s : State) (sp : Space) (a : Nat) (v : Byte) : (s.writeByte sp a v).toStop = s.toStop := by unfold State.writeByte; split <;> simp
@[simp] theorem State.writeByte_dispAddr (s : State) (sp : Space) (a : Nat) (v : Byte) : (s.writeByte sp a v).dispAddr = s.dispAddr := by unfold State.writeByte; split <;> simp
@[simp] theorem State.writeByte_eng (s : State) (sp : Space) (a : Nat) (v : Byte) : (s.writeByte sp a v).eng = s.eng := by unfold State.writeByte; split <;> simp
@[simp] theorem State.writeByte_bh (s : State) (sp : Space) (a : Nat) (v : Byte) : (s.writeByte sp a v).bh = s.bh := by unfold State.writeByte; split <;> simp
@[simp] theorem State.writeByte_faults (s : State) (sp : Space) (a : Nat) (v : Byte) : (s.writeByte sp a v).faults = s.faults := by unfold State.writeByte; split <;> simp
@[simp] theorem State.writeByte_schedule (s : State) (sp : Space) (a : Nat) (v : Byte) : (s.writeByte sp a v).schedule = s.schedule := by unfold State.writeByte; split <;> simp
@[simp] theorem State.writeByte_answers (s : State) (sp : Space) (a : Nat) (v : Byte) : (s.writeByte sp a v).answers = s.answers := by unfold State.writeByte; split <;> simp
@[simp] theorem State.writeByte_draws (s : State) (sp : Space) (a : Nat) (v : Byte) : (s.writeByte sp a v).draws = s.draws := by unfold State.writeByte; split <;> simp
@[simp] theorem State.writeByte_ramDraw (s : State) (sp : Space) (a : Nat) (v : Byte) : (s.writeByte sp a v).ramDraw = s.ramDraw := by unfold State.writeByte; split <;> simp
@[simp] theorem State.writeByte_reply (s : State) (sp : Space) (a : Nat) (v : Byte) : (s.writeByte sp a v).reply = s.reply := by unfold State.writeByte; split <;> simp
@[simp] theorem State.writeByte_polled (s : State) (sp : Space) (a : Nat) (v : Byte) : (s.writeByte sp a v).polled = s.polled := by unfold State.writeByte; split <;> simp

@[simp] theorem State.writeByte_fb_stage (s : State) (a : Nat) (v : Byte) : (s.writeByte .fb a v).stage = s.stage := by
  unfold State.writeByte; split <;> simp
@[simp] theorem State.writeByte_stage_fb (s : State) (a : Nat) (v : Byte) : (s.writeByte .stage a v).fb = s.fb := by
  unfold State.writeByte; split <;> simp

/-! ### An answer drawn from ENV (10 R36) -/

@[simp] theorem State.takeAnswer_cmd (s : State) : s.takeAnswer.cmd = s.cmd := by unfold State.takeAnswer; split <;> rfl
@[simp] theorem State.takeAnswer_status (s : State) : s.takeAnswer.status = s.status := by unfold State.takeAnswer; split <;> rfl
@[simp] theorem State.takeAnswer_arg0 (s : State) : s.takeAnswer.arg0 = s.arg0 := by unfold State.takeAnswer; split <;> rfl
@[simp] theorem State.takeAnswer_arg1 (s : State) : s.takeAnswer.arg1 = s.arg1 := by unfold State.takeAnswer; split <;> rfl
@[simp] theorem State.takeAnswer_arg2 (s : State) : s.takeAnswer.arg2 = s.arg2 := by unfold State.takeAnswer; split <;> rfl
@[simp] theorem State.takeAnswer_result (s : State) : s.takeAnswer.result = s.result := by unfold State.takeAnswer; split <;> rfl
@[simp] theorem State.takeAnswer_errInfo (s : State) : s.takeAnswer.errInfo = s.errInfo := by unfold State.takeAnswer; split <;> rfl
@[simp] theorem State.takeAnswer_tick (s : State) : s.takeAnswer.tick = s.tick := by unfold State.takeAnswer; split <;> rfl
@[simp] theorem State.takeAnswer_cursor (s : State) : s.takeAnswer.cursor = s.cursor := by unfold State.takeAnswer; split <;> rfl
@[simp] theorem State.takeAnswer_busCcr (s : State) : s.takeAnswer.busCcr = s.busCcr := by unfold State.takeAnswer; split <;> rfl
@[simp] theorem State.takeAnswer_busTrise (s : State) : s.takeAnswer.busTrise = s.busTrise := by unfold State.takeAnswer; split <;> rfl
@[simp] theorem State.takeAnswer_toFlag (s : State) : s.takeAnswer.toFlag = s.toFlag := by unfold State.takeAnswer; split <;> rfl
@[simp] theorem State.takeAnswer_toBusy (s : State) : s.takeAnswer.toBusy = s.toBusy := by unfold State.takeAnswer; split <;> rfl
@[simp] theorem State.takeAnswer_toStop (s : State) : s.takeAnswer.toStop = s.toStop := by unfold State.takeAnswer; split <;> rfl
@[simp] theorem State.takeAnswer_dispAddr (s : State) : s.takeAnswer.dispAddr = s.dispAddr := by unfold State.takeAnswer; split <;> rfl
@[simp] theorem State.takeAnswer_fb (s : State) : s.takeAnswer.fb = s.fb := by unfold State.takeAnswer; split <;> rfl
@[simp] theorem State.takeAnswer_stage (s : State) : s.takeAnswer.stage = s.stage := by unfold State.takeAnswer; split <;> rfl
@[simp] theorem State.takeAnswer_eng (s : State) : s.takeAnswer.eng = s.eng := by unfold State.takeAnswer; split <;> rfl
@[simp] theorem State.takeAnswer_bh (s : State) : s.takeAnswer.bh = s.bh := by unfold State.takeAnswer; split <;> rfl
@[simp] theorem State.takeAnswer_faults (s : State) : s.takeAnswer.faults = s.faults := by unfold State.takeAnswer; split <;> rfl
@[simp] theorem State.takeAnswer_schedule (s : State) : s.takeAnswer.schedule = s.schedule := by unfold State.takeAnswer; split <;> rfl
@[simp] theorem State.takeAnswer_ramDraw (s : State) : s.takeAnswer.ramDraw = s.ramDraw := by unfold State.takeAnswer; split <;> rfl
@[simp] theorem State.takeAnswer_reply (s : State) : s.takeAnswer.reply = s.reply := by unfold State.takeAnswer; split <;> rfl

@[simp] theorem State.takeAnswer_polled (s : State) : s.takeAnswer.polled = true := by
  unfold State.takeAnswer; split <;> rfl
@[simp] theorem State.takeAnswer_answers (s : State) : s.takeAnswer.answers = s.answers.tail := by
  unfold State.takeAnswer; split <;> simp_all
theorem State.takeAnswer_draws (s : State) :
    s.takeAnswer.draws = if s.answers = [] then s.draws + 1 else s.draws := by
  unfold State.takeAnswer; split <;> simp_all

/-! ### A tick (10 R30) -/

@[simp] theorem tickStep_cmd (s : State) : (tickStep s).cmd = s.cmd := rfl
@[simp] theorem tickStep_status (s : State) : (tickStep s).status = s.status := rfl
@[simp] theorem tickStep_arg0 (s : State) : (tickStep s).arg0 = s.arg0 := rfl
@[simp] theorem tickStep_arg1 (s : State) : (tickStep s).arg1 = s.arg1 := rfl
@[simp] theorem tickStep_arg2 (s : State) : (tickStep s).arg2 = s.arg2 := rfl
@[simp] theorem tickStep_result (s : State) : (tickStep s).result = s.result := rfl
@[simp] theorem tickStep_errInfo (s : State) : (tickStep s).errInfo = s.errInfo := rfl
@[simp] theorem tickStep_tick (s : State) : (tickStep s).tick = s.tick + 1 := rfl
@[simp] theorem tickStep_cursor (s : State) : (tickStep s).cursor = s.cursor := rfl
@[simp] theorem tickStep_busCcr (s : State) : (tickStep s).busCcr = s.busCcr := rfl
@[simp] theorem tickStep_busTrise (s : State) : (tickStep s).busTrise = s.busTrise := rfl
@[simp] theorem tickStep_toFlag (s : State) : (tickStep s).toFlag = s.toFlag := rfl
@[simp] theorem tickStep_toBusy (s : State) : (tickStep s).toBusy = s.toBusy := rfl
@[simp] theorem tickStep_toStop (s : State) : (tickStep s).toStop = s.toStop := rfl
@[simp] theorem tickStep_dispAddr (s : State) : (tickStep s).dispAddr = s.dispAddr := rfl
@[simp] theorem tickStep_fb (s : State) : (tickStep s).fb = s.fb := rfl
@[simp] theorem tickStep_stage (s : State) : (tickStep s).stage = s.stage := rfl
@[simp] theorem tickStep_eng (s : State) : (tickStep s).eng = s.eng := rfl
@[simp] theorem tickStep_bh (s : State) : (tickStep s).bh = s.bh := rfl
@[simp] theorem tickStep_faults (s : State) : (tickStep s).faults = s.faults := rfl
@[simp] theorem tickStep_schedule (s : State) : (tickStep s).schedule = s.schedule := rfl
@[simp] theorem tickStep_answers (s : State) : (tickStep s).answers = s.answers := rfl
@[simp] theorem tickStep_draws (s : State) : (tickStep s).draws = s.draws := rfl
@[simp] theorem tickStep_ramDraw (s : State) : (tickStep s).ramDraw = s.ramDraw := rfl
@[simp] theorem tickStep_reply (s : State) : (tickStep s).reply = s.reply := rfl
@[simp] theorem tickStep_polled (s : State) : (tickStep s).polled = false := rfl

end Sys2Proof.Machine
end

