-- ==== Sys2Proof/Laws/Memory.lean ====
section
/-! SUPPORT. The laws of the RAMs: a read after a write, the canonical form kept by every memory operation, and the
form of the reset memory. -/

namespace Sys2Proof.Machine

@[simp] theorem memLookup_insert_self (m : Memory) (k : Nat) (v : Byte) :
    memLookup (memInsert m k v) k = some v := by
  induction m with
  | nil => simp [memInsert, memLookup]
  | cons c m ih =>
    obtain ⟨a, b⟩ := c
    simp only [memInsert]
    split
    · simp [memLookup]
    · split
      · simp [memLookup]
      · rename_i h
        simp [memLookup, h, ih]

theorem memLookup_insert_ne (m : Memory) {k j : Nat} (v : Byte) (h : j ≠ k) :
    memLookup (memInsert m k v) j = memLookup m j := by
  induction m with
  | nil => simp [memInsert, memLookup, h]
  | cons c m ih =>
    obtain ⟨a, b⟩ := c
    simp only [memInsert]
    split
    · simp [memLookup, h]
    · split
      · rename_i e
        subst e
        simp [memLookup, h]
      · simp [memLookup, ih]

theorem memRising_mono {lo lo' : Nat} {m : Memory} (h : lo' ≤ lo) (hm : memRising lo m = true) :
    memRising lo' m = true := by
  cases m with
  | nil => rfl
  | cons c m =>
    simp only [memRising, Bool.and_eq_true, decide_eq_true_eq] at hm ⊢
    exact ⟨by omega, hm.2⟩

theorem memRising_insert {lo k : Nat} (m : Memory) (v : Byte) (hk : lo ≤ k) (hm : memRising lo m = true) :
    memRising lo (memInsert m k v) = true := by
  induction m generalizing lo with
  | nil => simp [memInsert, memRising, hk]
  | cons c m ih =>
    obtain ⟨a, b⟩ := c
    simp only [memRising, Bool.and_eq_true, decide_eq_true_eq] at hm
    simp only [memInsert]
    split
    · simp only [memRising, Bool.and_eq_true, decide_eq_true_eq]
      exact ⟨hk, by omega, hm.2⟩
    · split
      · rename_i e
        subst e
        simp only [memRising, Bool.and_eq_true, decide_eq_true_eq]
        exact ⟨hk, hm.2⟩
      · simp only [memRising, Bool.and_eq_true, decide_eq_true_eq]
        exact ⟨hm.1, ih (by omega) hm.2⟩

theorem memInsert_all_lt {size k : Nat} (m : Memory) (v : Byte) (hk : k < size)
    (hm : m.all (fun c => decide (c.1 < size)) = true) :
    (memInsert m k v).all (fun c => decide (c.1 < size)) = true := by
  induction m with
  | nil => simp [memInsert, hk]
  | cons c m ih =>
    obtain ⟨a, b⟩ := c
    simp only [List.all_cons, Bool.and_eq_true, decide_eq_true_eq] at hm
    simp only [memInsert]
    split
    · simp only [List.all_cons, Bool.and_eq_true, decide_eq_true_eq]
      exact ⟨hk, hm⟩
    · split
      · simp only [List.all_cons, Bool.and_eq_true, decide_eq_true_eq]
        exact ⟨hk, hm.2⟩
      · simp only [List.all_cons, Bool.and_eq_true, decide_eq_true_eq]
        exact ⟨hm.1, ih hm.2⟩

/-- A write keeps the canonical form. -/
theorem memInsert_wf {size k : Nat} (m : Memory) (v : Byte) (hk : k < size) (hm : Memory.wf size m = true) :
    Memory.wf size (memInsert m k v) = true := by
  simp only [Memory.wf, Bool.and_eq_true] at hm ⊢
  exact ⟨memRising_insert m v (Nat.zero_le _) hm.1, memInsert_all_lt m v hk hm.2⟩

theorem memRising_range (b : Byte) (n lo : Nat) :
    memRising lo ((List.range' lo n).map fun i => (i, b)) = true := by
  induction n generalizing lo with
  | zero => rfl
  | succ n ih => simp [List.range'_succ, memRising, ih]

/-- FILL and CLEAR leave the canonical form (41 R124, R125). -/
theorem fillCells_wf (b : Byte) : Memory.wf Config.fbBytes (fillCells b) = true := by
  simp only [Memory.wf, fillCells, List.range_eq_range', Bool.and_eq_true]
  refine ⟨memRising_range b _ 0, ?_⟩
  simp [List.all_eq_true]

theorem memLookup_range (b : Byte) (n lo k : Nat) (h : lo ≤ k) (hk : k < lo + n) :
    memLookup ((List.range' lo n).map fun i => (i, b)) k = some b := by
  induction n generalizing lo with
  | zero => omega
  | succ n ih =>
    simp only [List.range'_succ, List.map_cons, memLookup]
    split
    · rfl
    · rename_i hne
      exact ih (lo + 1) (by omega) (by omega)

/-- Every FB byte of a filled framebuffer. -/
theorem memLookup_fillCells (b : Byte) {k : Nat} (h : k < Config.fbBytes) :
    memLookup (fillCells b) k = some b := by
  rw [fillCells, List.range_eq_range']
  exact memLookup_range b _ 0 k (Nat.zero_le _) (by simpa using h)

@[simp] theorem State.cells_setCells (s : State) (sp : Space) (m : Memory) : (s.setCells sp m).cells sp = m := by
  cases sp <;> rfl

theorem State.cells_setCells_ne (s : State) {sp sp' : Space} (m : Memory) (h : sp' ≠ sp) :
    (s.setCells sp m).cells sp' = s.cells sp' := by
  cases sp <;> cases sp' <;> first | rfl | exact absurd rfl h

/-- A read after a write to the same address. -/
theorem State.readByte_writeByte_self (s : State) (sp : Space) {a : Nat} (v : Byte) (h : a < spaceSize sp) :
    (s.writeByte sp a v).readByte sp a = v := by
  simp [State.readByte, State.writeByte, h]

/-- A write leaves every other address of the RAM alone. -/
theorem State.readByte_writeByte_ne (s : State) (sp : Space) {a b : Nat} (v : Byte) (h : b ≠ a) :
    (s.writeByte sp a v).readByte sp b = s.readByte sp b := by
  unfold State.writeByte
  split
  · simp [State.readByte, memLookup_insert_ne _ v h]
  · rfl

/-- A write to one RAM leaves the other alone. -/
theorem State.readByte_writeByte_space (s : State) {sp sp' : Space} (a b : Nat) (v : Byte) (h : sp' ≠ sp) :
    (s.writeByte sp a v).readByte sp' b = s.readByte sp' b := by
  unfold State.writeByte
  split
  · simp [State.readByte, State.cells_setCells_ne s _ h]
  · rfl

/-- A byte read depends on the cells of its RAM and on the reset's draw only. -/
theorem State.readByte_congr {s t : State} {sp : Space} (hc : t.cells sp = s.cells sp) (hd : t.ramDraw = s.ramDraw)
    (a : Nat) : t.readByte sp a = s.readByte sp a := by
  simp [State.readByte, hc, hd]

/-- Writing a byte keeps both RAMs in canonical form, wherever it goes. -/
theorem State.writeByte_ramOk {s : State} (sp : Space) (a : Nat) (v : Byte) (h : ramOk s) :
    ramOk (s.writeByte sp a v) := by
  unfold State.writeByte
  split
  · rename_i ha
    cases sp with
    | fb => exact ⟨memInsert_wf _ v ha h.1, h.2⟩
    | stage => exact ⟨h.1, memInsert_wf _ v ha h.2⟩
  · exact h

/-- Writing a list of bytes keeps both RAMs in canonical form. -/
theorem State.writeBytes_ramOk {s : State} (sp : Space) (a : Nat) (bs : List Byte) (h : ramOk s) :
    ramOk (s.writeBytes sp a bs) := by
  induction bs generalizing s a with
  | nil => exact h
  | cons b bs ih => exact ih (a + 1) (State.writeByte_ramOk sp a b h)

/-- The reset memory has the canonical form. -/
theorem reset_ramOk : ramOk State.reset := ⟨rfl, rfl⟩

/-- Whatever a block of writes does, it is a change of that RAM's cells only. -/
theorem State.writeBytes_eq (s : State) (sp : Space) (a : Nat) (bs : List Byte) :
    s.writeBytes sp a bs = s.setCells sp ((s.writeBytes sp a bs).cells sp) := by
  induction bs generalizing s a with
  | nil => cases sp <;> rfl
  | cons b bs ih =>
    rw [State.writeBytes, ih (s.writeByte sp a b) (a + 1)]
    unfold State.writeByte
    split <;> cases sp <;> rfl

end Sys2Proof.Machine
end

