-- ==== Sys2Proof/Laws/Graphics.lean ====
section
/-! SUPPORT. What plotting can do: it changes FB cells only, keeps the canonical form, and leaves alone every byte that
no plotted on-screen point lies in. -/

namespace Sys2Proof.Machine

/-- The screen in numbers (42 R152). -/
theorem onScreen_iff (pt : Point) : onScreen pt = true ↔ (0 ≤ pt.1 ∧ pt.1 < 128) ∧ 0 ≤ pt.2 ∧ pt.2 < 64 := by
  simp only [onScreen, Bool.and_eq_true, decide_eq_true_eq]
  simp only [Config.width, Config.height]
  omega

/-- An on-screen point lies in a byte of FB (10 R34). -/
theorem pixelByte_lt {pt : Point} (h : onScreen pt = true) : pixelByte pt < Config.fbBytes := by
  rw [onScreen_iff] at h
  simp only [pixelByte, Config.width, Config.fbBytes]
  omega

/-- One `Plot` is a change of FB cells only (42 R152). -/
theorem plot_eq (c : Color) (s : State) (pt : Point) : plot c s pt = s.setCells .fb (plot c s pt).fb := by
  unfold plot
  split
  · unfold State.writeByte
    split <;> rfl
  · rfl

/-- The `Plot` calls of a command are a change of FB cells only (42 R150). -/
theorem plotAll_eq (c : Color) (pts : List Point) (s : State) :
    plotAll c pts s = { s with fb := (plotAll c pts s).fb } := by
  induction pts generalizing s with
  | nil => rfl
  | cons pt pts ih =>
    have h : plotAll c (pt :: pts) s = plotAll c pts (plot c s pt) := rfl
    rw [h, ih (plot c s pt), plot_eq c s pt]
    rfl

/-- A `Plot` keeps the canonical form of the RAMs. -/
theorem plot_ramOk (c : Color) {s : State} (pt : Point) (h : ramOk s) : ramOk (plot c s pt) := by
  unfold plot
  split
  · exact State.writeByte_ramOk _ _ _ h
  · exact h

/-- The `Plot` calls of a command keep the canonical form of the RAMs. -/
theorem plotAll_ramOk (c : Color) (pts : List Point) {s : State} (h : ramOk s) : ramOk (plotAll c pts s) := by
  induction pts generalizing s with
  | nil => exact h
  | cons pt pts ih => exact ih (plot_ramOk c pt h)

/-- A byte in which no plotted on-screen point lies reads as before. -/
theorem plotAll_readByte_ne (c : Color) (pts : List Point) (s : State) (a : Nat)
    (h : ∀ pt ∈ pts, onScreen pt = true → pixelByte pt ≠ a) :
    (plotAll c pts s).readByte .fb a = s.readByte .fb a := by
  induction pts generalizing s with
  | nil => rfl
  | cons pt pts ih =>
    have e : plotAll c (pt :: pts) s = plotAll c pts (plot c s pt) := rfl
    rw [e, ih _ fun q hq => h q (List.mem_cons_of_mem _ hq)]
    unfold plot
    split
    · rename_i hs
      exact State.readByte_writeByte_ne _ _ _ fun e => h pt List.mem_cons_self hs e.symm
    · rfl

end Sys2Proof.Machine
end

