-- ==== Sys2Proof/Laws/Engine.lean ====
section
/-! SUPPORT. What the shared operations of the engine can do, said once: the entry into a meaning, and what one engine
step of a bus command leaves alone. -/

namespace Sys2Proof.Machine

/-- A meaning answers a next state exactly when the engine is in EXEC (40 R93). -/
theorem inExec_next_iff {s t : State} {f : Latch → Option Pos → State} :
    inExec s f = .next t ↔ ∃ l p, s.eng = .exec l p ∧ t = f l p := by
  unfold inExec
  split
  · rename_i h
    simp [h]
  · rename_i l p h
    simp only [Host.Outcome.next.injEq, h, Engine.exec.injEq]
    constructor
    · rintro rfl
      exact ⟨l, p, ⟨rfl, rfl⟩, rfl⟩
    · rintro ⟨l', p', ⟨rfl, rfl⟩, rfl⟩
      rfl

/-- In EXEC a meaning is its state function. -/
theorem inExec_exec {s : State} {l : Latch} {p : Option Pos} (h : s.eng = .exec l p)
    (f : Latch → Option Pos → State) : inExec s f = .next (f l p) := by
  simp [inExec, h]

/-- The fields no bus command ever writes: the registers but STATUS, RESULT and ERR_INFO, the framebuffer, the fault
records, and the other agents' fields but ENV's. -/
structure BusFrame (s t : State) : Prop where
  cmd : t.cmd = s.cmd
  arg0 : t.arg0 = s.arg0
  arg1 : t.arg1 = s.arg1
  arg2 : t.arg2 = s.arg2
  tick : t.tick = s.tick
  cursor : t.cursor = s.cursor
  busCcr : t.busCcr = s.busCcr
  busTrise : t.busTrise = s.busTrise
  toFlag : t.toFlag = s.toFlag
  toBusy : t.toBusy = s.toBusy
  toStop : t.toStop = s.toStop
  dispAddr : t.dispAddr = s.dispAddr
  fb : t.fb = s.fb
  faults : t.faults = s.faults
  schedule : t.schedule = s.schedule
  ramDraw : t.ramDraw = s.ramDraw
  reply : t.reply = s.reply

theorem BusFrame.refl (s : State) : BusFrame s s := by constructor <;> rfl

theorem BusFrame.trans {s t u : State} (h : BusFrame s t) (k : BusFrame t u) : BusFrame s u :=
  ⟨k.cmd.trans h.cmd, k.arg0.trans h.arg0, k.arg1.trans h.arg1, k.arg2.trans h.arg2, k.tick.trans h.tick,
   k.cursor.trans h.cursor, k.busCcr.trans h.busCcr, k.busTrise.trans h.busTrise, k.toFlag.trans h.toFlag,
   k.toBusy.trans h.toBusy, k.toStop.trans h.toStop, k.dispAddr.trans h.dispAddr, k.fb.trans h.fb,
   k.faults.trans h.faults, k.schedule.trans h.schedule, k.ramDraw.trans h.ramDraw, k.reply.trans h.reply⟩

theorem busFrame_emit (s : State) (a : Action) : BusFrame s (s.emit a) := by constructor <;> rfl

theorem busFrame_consume (s : State) (a : Answer) : BusFrame s (s.consume a) := by constructor <;> rfl

theorem busFrame_at (s : State) (l : Latch) (p : Pos) : BusFrame s (s.at l p) := by constructor <;> rfl

theorem busFrame_takeAnswer (s : State) : BusFrame s s.takeAnswer := by constructor <;> simp

theorem busFrame_complete (s : State) (e : ErrCode) (r i : Word) : BusFrame s (s.complete e r i) := by
  constructor <;> rfl

theorem busFrame_storeReceived (x : Xact) (i : Nat) (a : Answer) (s : State) :
    BusFrame s (storeReceived x i a s) := by
  unfold storeReceived
  split
  · constructor <;> simp
  · exact BusFrame.refl s

theorem busFrame_busSucceed (c : BusCmd) (r : Word) (s : State) : BusFrame s (busSucceed c r s) := by
  constructor <;> rfl

theorem busFrame_busNotReady (c : BusCmd) (r : Word) (s : State) : BusFrame s (busNotReady c r s) := by
  constructor <;> rfl

theorem busFrame_busFail (c : BusCmd) (p : Pos) (s : State) : BusFrame s (busFail c p s) := by constructor <;> rfl

theorem busFrame_nextItem (c : BusCmd) (l : Latch) (p : Pos) (i : Nat) (s : State) :
    BusFrame s (nextItem c l p i s) := by
  unfold nextItem
  split
  · exact busFrame_busSucceed c _ s
  · exact busFrame_at s l _

theorem busFrame_endTransaction (c : BusCmd) (l : Latch) (p : Pos) (s : State) :
    BusFrame s (endTransaction c l p s) := by
  unfold endTransaction
  split
  · exact busFrame_nextItem c l p _ s
  · split
    · exact busFrame_nextItem c l p _ s
    · split
      · exact busFrame_at s l _
      · exact busFrame_busNotReady c _ s

theorem busFrame_endPhase (c : BusCmd) (l : Latch) (x : Xact) (p : Pos) (a : Answer) (s : State) :
    BusFrame s (endPhase c l x p a s) := by
  unfold endPhase
  split
  · exact busFrame_at s l _
  · exact busFrame_at s l _
  · exact busFrame_at s l _
  · exact (busFrame_storeReceived x p.byte a s).trans (busFrame_at _ l _)
  · exact busFrame_endTransaction c l p s

theorem busFrame_pollPhase (c : BusCmd) (l : Latch) (x : Xact) (p : Pos) (s : State) :
    BusFrame s (pollPhase c l x p s) := by
  unfold pollPhase
  have ht := busFrame_takeAnswer s
  dsimp only
  split
  · exact ht.trans ((busFrame_consume _ _).trans (busFrame_endPhase c l x p _ _))
  · split
    · exact ht.trans (busFrame_busFail c p _)
    · exact ht.trans (busFrame_at _ l p)

theorem busFrame_busPoll (P : Params) (c : BusCmd) (l : Latch) (p : Pos) (s : State) :
    BusFrame s (busPoll P c l p s) := by
  unfold busPoll
  split
  · exact busFrame_busSucceed c _ s
  · split
    · unfold openAndPoll
      dsimp only
      split
      · exact (busFrame_emit s _).trans (busFrame_pollPhase c l _ _ _)
      · exact busFrame_pollPhase c l _ _ s
    · exact busFrame_pollPhase c l _ p s

/-- One engine step of any bus command leaves the fields of `BusFrame` alone. -/
theorem busFrame_busStep (P : Params) (legal : Bool) (c : BusCmd) (l : Latch) (pos : Option Pos) (s : State) :
    BusFrame s (busStep P legal c l pos s) := by
  unfold busStep
  split
  · split
    · split
      · unfold busBegin
        split
        · split
          · exact busFrame_busNotReady c 0 s
          · exact busFrame_busPoll P c l _ s
        · exact busFrame_busPoll P c l _ s
      · exact busFrame_complete s _ 0 0
    · exact busFrame_complete s _ 0 0
  · exact busFrame_busPoll P c l _ s

/-- What ended a phase adds nothing to BH beyond the answer already consumed (40 R99, R101, R108). -/
theorem endPhase_bh (c : BusCmd) (l : Latch) (x : Xact) (p : Pos) (a : Answer) (s : State) :
    (endPhase c l x p a s).bh = s.bh := by
  unfold endPhase
  split <;> try rfl
  · show (storeReceived x p.byte a s).bh = s.bh
    unfold storeReceived
    split <;> simp
  · unfold endTransaction nextItem
    split
    · split <;> rfl
    · split
      · split <;> rfl
      · split <;> rfl

/-- In a transaction, `exec` of a bus command is one poll of it (40 R93, R96). -/
theorem exec_busPoll {i : Instr} {s : State} {l : Latch} {p : Pos} {c : BusCmd} (he : s.eng = .exec l (some p))
    (hb : busCmdOf i l s = some c) : exec i s = .next (busPoll Config.params c l p s) := by
  cases i <;> simp only [busCmdOf, Option.some.injEq, reduceCtorEq] at hb <;> subst hb <;> exact inExec_exec he _

/-- The transaction in progress (40 R108, 41 R122) as the poll finds it. -/
theorem inXact_current {c : BusCmd} {p : Pos} {x : Xact} (h : InXact c p x) : c.current p = some x := by
  cases hj : p.job with
  | probe k acked =>
    simp only [InXact, hj] at h
    obtain ⟨pr, h1, rfl⟩ := h
    simp [BusCmd.current, hj, h1]
  | item k =>
    simp only [InXact, hj] at h
    simpa [BusCmd.current, hj] using h

/-- PutGlyph (41 R128): when it does not fail it changes FB through the plotted glyph and sets the cursor. -/
theorem putGlyph_some {f : Font} {c : Color} {ch : Byte} {s t : State} (h : putGlyph f c ch s = some t) :
    (glyphCorner f s.cursor).2 + f.fh ≤ Config.height ∧
      t = { plotAll c (glyphPoints f ch (glyphCorner f s.cursor)) s with
            cursor := { cx := BitVec.ofNat 16 ((glyphCorner f s.cursor).1 + f.fw),
                        cy := BitVec.ofNat 16 (glyphCorner f s.cursor).2 } } := by
  unfold putGlyph at h
  dsimp only at h
  split at h
  · cases h
  · rename_i hn
    exact ⟨by omega, by simpa using h.symm⟩

/-- PutGlyph fails exactly when the glyph would pass the bottom (41 R128). -/
theorem putGlyph_none_iff {f : Font} {c : Color} {ch : Byte} {s : State} :
    putGlyph f c ch s = none ↔ Config.height < (glyphCorner f s.cursor).2 + f.fh := by
  unfold putGlyph
  dsimp only
  split
  · rename_i h
    simp only [true_iff]
    omega
  · rename_i h
    simp only [reduceCtorEq, false_iff]
    omega

end Sys2Proof.Machine
end

