-- ==== Sys2Proof/Laws/HostPort.lean ====
section
/-! SUPPORT. What a host access, one poll and one step of the machine can do, each said once: an inversion lemma per
operation, guards included, which later proofs cite instead of unfolding the operation. -/

namespace Sys2Proof.Machine

/-- A read is recorded as a violation or admitted (20 R52..R56). -/
theorem hostRead_cases (s : State) (off : BitVec 12) (w : Width) :
    (violations s off w .read = [] ∧ hostRead s off w = hostReadOk s off w) ∨
    (violations s off w .read ≠ [] ∧ hostRead s off w = (s.recordAll (violations s off w .read)).handBack none) := by
  unfold hostRead
  split
  · rename_i h
    exact .inl ⟨h, rfl⟩
  · rename_i h
    exact .inr ⟨h, rfl⟩

/-- A write is recorded as a violation or admitted (20 R52..R56). -/
theorem hostWrite_cases (s : State) (off : BitVec 12) (w : Width) (v : Word) :
    (violations s off w .write = [] ∧ hostWrite s off w v = hostWriteOk s off w v) ∨
    (violations s off w .write ≠ [] ∧
      hostWrite s off w v = (s.recordAll (violations s off w .write)).handBack none) := by
  unfold hostWrite
  split
  · rename_i h
    exact .inl ⟨h, rfl⟩
  · rename_i h
    exact .inr ⟨h, rfl⟩

/-- An admitted read hands back one value and changes nothing else, or nothing stands at the offset. -/
theorem hostReadOk_eq (s : State) (off : BitVec 12) (w : Width) :
    hostReadOk s off w = s.handBack (match targetAt off with
      | .reg r => some (regValue s r)
      | .window sp i => some (wordOfBytes (s.readBytes sp i w.bytes))
      | .bad => none) := by
  unfold hostReadOk
  cases targetAt off <;> rfl

/-- An offset of the register block is found again at BASE plus it (20 R51). -/
theorem blockOffset_add (base : Nat) (off : BitVec 12) : blockOffset base (base + off.toNat) = some off := by
  have h := off.isLt
  unfold blockOffset
  rw [if_pos (by omega), Nat.add_sub_cancel_left, BitVec.ofNat_toNat, BitVec.setWidth_eq]

/-- An address outside the block has no offset in it (20 R51). -/
theorem blockOffset_outside {base addr : Nat} (h : addr < base ∨ base + 0x1000 ≤ addr) :
    blockOffset base addr = none := by
  unfold blockOffset
  rw [if_neg (by omega)]

/-- A host access reaches the register block or changes nothing (20 R51). -/
theorem hostStep_cases (base : Nat) (acc : HostAccess) (s : State) :
    (∃ op, acc.blockOp base = some op ∧ hostStep base acc s = hostAccess s op) ∨
    (acc.blockOp base = none ∧ hostStep base acc s = s) := by
  unfold hostStep
  split
  · rename_i op h
    exact .inl ⟨op, h, rfl⟩
  · rename_i h
    exact .inr ⟨h, rfl⟩

/-- A CMD write has three cases (40 R92). -/
theorem writeCmd_cases (s : State) (v : Word) :
    (s.status.halted = true ∧ s.writeCmd v = s) ∨
    (s.status.halted = false ∧ s.status.busy = true ∧
      s.writeCmd v = { s with status := { s.status with overrun := true } }) ∨
    (s.status.halted = false ∧ s.status.busy = false ∧ s.writeCmd v = s.accept v) := by
  unfold State.writeCmd
  split
  · rename_i h
    exact .inl ⟨h, rfl⟩
  · rename_i h
    split
    · rename_i hb
      exact .inr (.inl ⟨by simpa using h, hb, rfl⟩)
    · rename_i hb
      exact .inr (.inr ⟨by simpa using h, by simpa using hb, rfl⟩)

/-- Recording keeps FAULTS a set (60 R171). -/
theorem record_nodup {s : State} (r : FaultRecord) (h : s.faults.Nodup) : (s.record r).faults.Nodup := by
  unfold State.record
  dsimp only
  split
  · exact h
  · rename_i hr
    rw [List.nodup_append]
    refine ⟨h, by simp, ?_⟩
    intro a ha b hb
    simp only [List.mem_singleton] at hb
    subst hb
    exact fun e => hr (e ▸ ha)

/-- The records after one is added (60 R171). -/
theorem mem_record (s : State) (r q : FaultRecord) : q ∈ (s.record r).faults ↔ q ∈ s.faults ∨ q = r := by
  unfold State.record
  dsimp only
  split
  · rename_i hr
    constructor
    · exact .inl
    · rintro (h | rfl)
      · exact h
      · exact hr
  · simp

/-- Recording changes FAULTS only. -/
theorem recordAll_eq (s : State) (rs : List FaultRecord) :
    s.recordAll rs = { s with faults := (s.recordAll rs).faults } := by
  induction rs generalizing s with
  | nil => rfl
  | cons r rs ih =>
    have h : s.recordAll (r :: rs) = (s.record r).recordAll rs := rfl
    rw [h, ih (s.record r)]
    rfl

/-- The records after several are added (60 R171). -/
theorem mem_recordAll (s : State) (rs : List FaultRecord) (q : FaultRecord) :
    q ∈ (s.recordAll rs).faults ↔ q ∈ s.faults ∨ q ∈ rs := by
  induction rs generalizing s with
  | nil => simp [State.recordAll]
  | cons r rs ih =>
    have h : s.recordAll (r :: rs) = (s.record r).recordAll rs := rfl
    rw [h, ih (s.record r), mem_record]
    simp [or_assoc]

/-- Recording several keeps FAULTS a set (60 R171). -/
theorem recordAll_nodup {s : State} (rs : List FaultRecord) (h : s.faults.Nodup) : (s.recordAll rs).faults.Nodup := by
  induction rs generalizing s with
  | nil => exact h
  | cons r rs ih => exact ih (record_nodup r h)

/-- One poll ends the phase, waits on, or fails the command (40 R96). -/
theorem pollPhase_cases (c : BusCmd) (l : Latch) (x : Xact) (p : Pos) (s : State) :
    (wanted x p.phase s.nextAnswer = true ∧
      pollPhase c l x p s = endPhase c l x p s.nextAnswer (s.takeAnswer.consume s.nextAnswer)) ∨
    (wanted x p.phase s.nextAnswer = false ∧ phaseBudget c l p < elapsed s p ∧
      pollPhase c l x p s = busFail c p s.takeAnswer) ∨
    (wanted x p.phase s.nextAnswer = false ∧ ¬ phaseBudget c l p < elapsed s p ∧
      pollPhase c l x p s = s.takeAnswer.at l p) := by
  unfold pollPhase
  dsimp only
  split
  · rename_i h
    exact .inl ⟨h, rfl⟩
  · rename_i h
    split
    · rename_i hb
      exact .inr (.inl ⟨by simpa using h, hb, rfl⟩)
    · rename_i hb
      exact .inr (.inr ⟨by simpa using h, hb, rfl⟩)

/-- One engine step does nothing in IDLE, and in EXEC runs the decoded command or reports the illegal word (40 R93,
30 R77). -/
theorem engineStep_cases (s : State) :
    (s.eng = .idle ∧ engineStep s = .next s) ∨
    (∃ l p i, s.eng = .exec l p ∧ decode l.cmd = .ok i ∧ engineStep s = exec i s) ∨
    (∃ l p e, s.eng = .exec l p ∧ decode l.cmd = .error e ∧ engineStep s = .next (illegalWord s)) := by
  unfold engineStep
  split
  · rename_i h
    exact .inl ⟨h, rfl⟩
  · rename_i l p h
    split
    · rename_i i hd
      exact .inr (.inl ⟨l, p, i, h, hd, rfl⟩)
    · rename_i e hd
      exact .inr (.inr ⟨l, p, e, h, hd, rfl⟩)

/-- When a poll is owed before the next tick (40 R96, log 8). -/
theorem owesPoll_iff (s : State) :
    owesPoll s = true ↔ ∃ l p tp, s.eng = .exec l (some p) ∧ p.since = some tp ∧ s.polled = false := by
  unfold owesPoll
  split
  · rename_i l p h
    simp only [h, Bool.and_eq_true, Bool.not_eq_true', Option.isSome_iff_exists]
    constructor
    · rintro ⟨⟨a, ha⟩, hb⟩
      exact ⟨l, p, a, rfl, ha, hb⟩
    · rintro ⟨l', p', tp, e, ha, hb⟩
      cases e
      exact ⟨⟨tp, ha⟩, hb⟩
  · rename_i h
    constructor
    · simp
    · rintro ⟨l, p, tp, e, -, -⟩
      exact absurd e (h l p)

/-- One step of the machine is a host access, an engine step (its own or one owed before a tick), a tick, or a reset
(00 R12). -/
theorem step_cases (s : State) :
    (∃ acc, nextEvent s = .host acc ∧ step s = .next (hostStep Config.params.base acc (popEvent s))) ∨
    (nextEvent s = .engine ∧ step s = engineStep (popEvent s)) ∨
    (nextEvent s = .tick ∧ owesPoll (popEvent s) = true ∧
      step s = engineStep { popEvent s with schedule := .tick :: (popEvent s).schedule }) ∨
    (nextEvent s = .tick ∧ owesPoll (popEvent s) = false ∧ step s = .next (tickStep (popEvent s))) ∨
    (nextEvent s = .reset ∧ step s = .next (resetStep (popEvent s))) := by
  unfold step
  cases h : nextEvent s with
  | host acc => exact .inl ⟨acc, rfl, rfl⟩
  | engine => exact .inr (.inl ⟨rfl, rfl⟩)
  | reset => exact .inr (.inr (.inr (.inr ⟨rfl, rfl⟩)))
  | tick =>
    cases ho : owesPoll (popEvent s) with
    | true => exact .inr (.inr (.inl ⟨rfl, rfl, by simp [agentStep, tickEvent, ho]⟩))
    | false => exact .inr (.inr (.inr (.inl ⟨rfl, rfl, by simp [agentStep, tickEvent, ho]⟩)))

/-- Taking the next event changes the schedule or the draw counter only. -/
theorem popEvent_eq (s : State) :
    popEvent s = { s with schedule := (popEvent s).schedule, draws := (popEvent s).draws } := by
  unfold popEvent
  split
  · rfl
  · split <;> rfl

end Sys2Proof.Machine
end

