-- ==== Sys2Proof/Laws/PerInstr.lean ====
section
/-! SUPPORT. Statements made per instruction. Encoding: the word of a well-formed instruction is 0 in every bit that is
neither OP nor a field its format admits (30 R71: bits 31:12 "reserved, must be 0"; 30 R72: "every field it does not
admit must be 0"), and its OP with the format's mask is its row's match (30 R75). -/

namespace Sys2Proof.Laws.Encoding

/-- The encoding of `i` stays inside the fields its format admits. -/
def Statement (i : Instr) : Prop :=
  i.wf = true → (encode i &&& ~~~(0xFF#32 ||| i.format.admitted)) = 0#32 ∧
    (encode i &&& i.format.mask) = (fieldOp (encode i)).setWidth 32

/-- The words of a CF row: both colours and the four slots. -/
theorem cf_words (op : Word) (h : ∀ c, ∀ f : Fin 4, (op ||| bitC c ||| bitsF f.val) &&& ~~~(0xFF#32 ||| 0x700#32) = 0#32 ∧
      ((op ||| bitC c ||| bitsF f.val) &&& 0xFFFFF8FF#32) = (fieldOp (op ||| bitC c ||| bitsF f.val)).setWidth 32)
    (c : Color) {f : Nat} (hf : slotOk f = true) : (op ||| bitC c ||| bitsF f) &&& ~~~(0xFF#32 ||| 0x700#32) = 0#32 ∧
      ((op ||| bitC c ||| bitsF f) &&& 0xFFFFF8FF#32) = (fieldOp (op ||| bitC c ||| bitsF f)).setWidth 32 :=
  h c ⟨f, by simpa [slotOk] using hf⟩

theorem nop : Statement .nop := fun _ => by decide
theorem busInit (q : Bool) : Statement (.busInit q) := fun _ => by cases q <;> decide
theorem transmit : Statement .transmit := fun _ => by decide
theorem receive : Statement .receive := fun _ => by decide
theorem isDeviceReady : Statement .isDeviceReady := fun _ => by decide
theorem dispInit : Statement .dispInit := fun _ => by decide
theorem fill (c : Color) : Statement (.fill c) := fun _ => by cases c <;> decide
theorem clear : Statement .clear := fun _ => by decide
theorem updateScreen : Statement .updateScreen := fun _ => by decide
theorem gotoXY : Statement .gotoXY := fun _ => by decide
theorem putc (c : Color) (f : Nat) : Statement (.putc c f) := fun h =>
  cf_words 0x15#32 (by intro c; cases c <;> decide) c h
theorem puts (c : Color) (f : Nat) : Statement (.puts c f) := fun h =>
  cf_words 0x16#32 (by intro c; cases c <;> decide) c h
theorem toggleInvert : Statement .toggleInvert := fun _ => by decide
theorem invertDisplay (q : Bool) : Statement (.invertDisplay q) := fun _ => by cases q <;> decide
theorem scrollRight : Statement .scrollRight := fun _ => by decide
theorem scrollLeft : Statement .scrollLeft := fun _ => by decide
theorem scrollDiagRight : Statement .scrollDiagRight := fun _ => by decide
theorem scrollDiagLeft : Statement .scrollDiagLeft := fun _ => by decide
theorem stopScroll : Statement .stopScroll := fun _ => by decide
theorem drawPixel (c : Color) : Statement (.drawPixel c) := fun _ => by cases c <;> decide
theorem drawLine (c : Color) : Statement (.drawLine c) := fun _ => by cases c <;> decide
theorem drawRect (c : Color) : Statement (.drawRect c) := fun _ => by cases c <;> decide
theorem drawFilledRect (c : Color) : Statement (.drawFilledRect c) := fun _ => by cases c <;> decide
theorem drawTriangle (c : Color) : Statement (.drawTriangle c) := fun _ => by cases c <;> decide
theorem drawCircle (c : Color) : Statement (.drawCircle c) := fun _ => by cases c <;> decide
theorem drawFilledCircle (c : Color) : Statement (.drawFilledCircle c) := fun _ => by cases c <;> decide
theorem drawBitmap (c : Color) : Statement (.drawBitmap c) := fun _ => by cases c <;> decide

end Sys2Proof.Laws.Encoding
end

