-- ==== Sys2Proof/Tests/Params93.lean ====
section
/-! SUPPORT. The default parameter values of 93_implementation_defined.md section 3, with which the vectors of
95_test_vectors.md are computed, and that file's test font TF. They are general knowledge of the spec, not of the
source; the machine never uses them (Config.params is opaque), only tests do. -/

namespace Sys2Proof.Tests

open Sys2Proof.Machine

/-- BUS_PROGRAMMABLE of 93 section 3.1. -/
def programmable93 (pclk f : Word) (duty : Bool) : Bool :=
  let p := pclk.toNat
  let q := f.toNat
  if q = 0 then false
  else if q ≤ 100000 then decide (2000000 ≤ p ∧ p ≤ 50000000 ∧ p / (2 * q) ≤ 4095)
  else if q ≤ 400000 then
    decide (4000000 ≤ p ∧ p ≤ 50000000 ∧ p / ((if duty then 25 else 3) * q) ≤ 4095)
  else false

/-- CCR_FN of 93 section 3.1. -/
def ccr93 (pclk f : Word) (duty : Bool) : Word :=
  let p := pclk.toNat
  let q := f.toNat
  if q ≤ 100000 then BitVec.ofNat 32 (max 4 (p / (2 * q)))
  else if duty then BitVec.ofNat 32 (0xC000 + max 1 (p / (25 * q)))
  else BitVec.ofNat 32 (0x8000 + max 1 (p / (3 * q)))

/-- TRISE_FN of 93 section 3.1. -/
def trise93 (pclk f : Word) : Word :=
  let mhz := pclk.toNat / 1000000
  if f.toNat ≤ 100000 then BitVec.ofNat 32 (mhz + 1) else BitVec.ofNat 32 (mhz * 300 / 1000 + 1)

/-- The test font TF of 95 section 0: 3 x 5, every glyph solid. -/
def fontTF : Font := { fwLess := 2, fhLess := 4, glyph := fun _ _ => 0xE0 }

/-- The values of 93 section 3, with TF in slot 1 (95 section 0). BASE has no default there, so its value is the tests'
own. -/
def params93 : Params :=
  { base := 0x40000000
    timeoutOrigin := .phaseStart
    busProgrammable := programmable93
    ccrFn := ccr93
    triseFn := trise93
    dispAddrReset := 0x78
    initSeq :=
      { displayOff := ⟨0xAE, []⟩, clockDivide := ⟨0xD5, [0x80]⟩, multiplexRatio := ⟨0xA8, [0x3F]⟩,
        displayOffset := ⟨0xD3, [0x00]⟩, chargePump := ⟨0x8D, [0x14]⟩, segmentRemap := ⟨0xA1, []⟩,
        comPins := ⟨0xDA, [0x12]⟩, contrast := ⟨0x81, [0xCF]⟩, displayOn := ⟨0xAF, []⟩ }
    pageCmd := fun p => BitVec.ofNat 8 (0xB0 + p)
    colCmds := [0x00, 0x10]
    invOnCmd := 0xA7
    invOffCmd := 0xA6
    scrollRight := [.byte 0x26, .byte 0x00, .startRow, .byte 0x00, .endRow, .byte 0x00, .byte 0xFF, .byte 0x2F]
    scrollLeft := [.byte 0x27, .byte 0x00, .startRow, .byte 0x00, .endRow, .byte 0x00, .byte 0xFF, .byte 0x2F]
    scrollDiagRight := [.byte 0xA3, .byte 0x00, .byte 0x40, .byte 0x29, .byte 0x00, .startRow, .byte 0x00, .endRow,
      .byte 0x01, .byte 0x2F]
    scrollDiagLeft := [.byte 0xA3, .byte 0x00, .byte 0x40, .byte 0x2A, .byte 0x00, .startRow, .byte 0x00, .endRow,
      .byte 0x01, .byte 0x2F]
    stopScrollSeq := [0x2E]
    font0Glyph := fun _ _ => 0
    font1 := some fontTF
    font2 := none
    font3 := none }

end Sys2Proof.Tests
end

