-- ==== Sys2Proof/Tests/Slice0.lean ====
section
/-! SUPPORT. Small tests, each about one step of one agent on a small state. Expected values are those of
95_test_vectors.md (the vector is named in the docstring) or are worked out by hand from the rule named. Where a value
depends on an OPEN parameter the test takes the spec's default instance (Params93.lean). -/

namespace Sys2Proof.Tests

open Sys2Proof Sys2Proof.Machine

/-! ## Well-formedness and encoding -/

/-- The font slot is two bits wide (30 R71): slot 3 is well formed, slot 4 is not, for both commands that have one. -/
theorem test_ill_formed_slot :
    Instr.wf (.putc .white 4) = false ∧ Instr.wf (.puts .black 4) = false ∧ Instr.wf (.putc .white 3) = true ∧
      Instr.wf (.puts .black 3) = true := by decide

/-- The BusDriver words of 95 section 2.1. -/
theorem test_decode_bus :
    decode 0x00000000#32 = .ok .nop ∧ decode 0x00000001#32 = .ok (.busInit false) ∧
    decode 0x00000801#32 = .ok (.busInit true) ∧ decode 0x00000002#32 = .ok .transmit ∧
    decode 0x00000003#32 = .ok .receive ∧ decode 0x00000004#32 = .ok .isDeviceReady := by decide

/-- The DisplayController words of 95 section 2.1, first half. -/
theorem test_decode_display :
    decode 0x00000010#32 = .ok .dispInit ∧ decode 0x00000011#32 = .ok (.fill .black) ∧
    decode 0x00000111#32 = .ok (.fill .white) ∧ decode 0x00000012#32 = .ok .clear ∧
    decode 0x00000013#32 = .ok .updateScreen ∧ decode 0x00000014#32 = .ok .gotoXY ∧
    decode 0x00000315#32 = .ok (.putc .white 1) ∧ decode 0x00000615#32 = .ok (.putc .black 3) ∧
    decode 0x00000116#32 = .ok (.puts .white 0) := by decide

/-- The DisplayController words of 95 section 2.1, second half. -/
theorem test_decode_scroll :
    decode 0x00000017#32 = .ok .toggleInvert ∧ decode 0x00000018#32 = .ok (.invertDisplay false) ∧
    decode 0x00000818#32 = .ok (.invertDisplay true) ∧ decode 0x00000019#32 = .ok .scrollRight ∧
    decode 0x0000001A#32 = .ok .scrollLeft ∧ decode 0x0000001B#32 = .ok .scrollDiagRight ∧
    decode 0x0000001C#32 = .ok .scrollDiagLeft ∧ decode 0x0000001D#32 = .ok .stopScroll := by decide

/-- The GraphicsEngine words of 95 section 2.1. -/
theorem test_decode_graphics :
    decode 0x00000120#32 = .ok (.drawPixel .white) ∧ decode 0x00000020#32 = .ok (.drawPixel .black) ∧
    decode 0x00000121#32 = .ok (.drawLine .white) ∧ decode 0x00000122#32 = .ok (.drawRect .white) ∧
    decode 0x00000123#32 = .ok (.drawFilledRect .white) ∧ decode 0x00000124#32 = .ok (.drawTriangle .white) ∧
    decode 0x00000125#32 = .ok (.drawCircle .white) ∧ decode 0x00000126#32 = .ok (.drawFilledCircle .white) ∧
    decode 0x00000127#32 = .ok (.drawBitmap .white) := by decide

/-- The unassigned OPs of 95 section 2.2. -/
theorem test_decode_unassigned :
    decode 0x00000005#32 = .error .unassignedOp ∧ decode 0x0000000F#32 = .error .unassignedOp ∧
    decode 0x0000001E#32 = .error .unassignedOp ∧ decode 0x00000028#32 = .error .unassignedOp ∧
    decode 0x000000FF#32 = .error .unassignedOp := by decide

/-- The words of 95 section 2.2 with a bit outside the fields their OP admits. -/
theorem test_decode_stray :
    decode 0x00000112#32 = .error .strayBits ∧ decode 0x00000213#32 = .error .strayBits ∧
    decode 0x00000220#32 = .error .strayBits ∧ decode 0x00000820#32 = .error .strayBits ∧
    decode 0x00000911#32 = .error .strayBits ∧ decode 0x00000901#32 = .error .strayBits ∧
    decode 0x00001020#32 = .error .strayBits ∧ decode 0x80000000#32 = .error .strayBits ∧
    decode 0x00000915#32 = .error .strayBits := by decide

/-- Words of 95 sections 2.1 and 2.3 as the encoder writes them. -/
theorem test_encode :
    encode (.busInit true) = 0x00000801#32 ∧ encode (.fill .white) = 0x00000111#32 ∧
    encode (.putc .black 3) = 0x00000615#32 ∧ encode (.putc .white 2) = 0x00000515#32 ∧
    encode (.puts .white 3) = 0x00000716#32 ∧ encode (.invertDisplay true) = 0x00000818#32 ∧
    encode .stopScroll = 0x0000001D#32 ∧ encode (.drawBitmap .white) = 0x00000127#32 := by decide

/-- The bits of a table row above `nbits` are 0, and no row is longer than a command word (30 R70). -/
theorem test_decode_table_word :
    decodeTableWord 32 0x00000315 = some (.putc .white 1) ∧ decodeTableWord 8 0x00000112 = some .clear ∧
      decodeTableWord 40 0 = none := by decide

/-! ## Helpers: a state with a command in progress -/

/-- What acceptance latched, with the budgets of 10 R32 and the display address of 93 section 3. -/
def latch (w a0 a1 a2 : Word) : Latch :=
  { cmd := w, arg0 := a0, arg1 := a1, arg2 := a2, toFlag := 35, toBusy := 25, toStop := 5, addr := 0x78 }

/-- After reset and BUS_INIT, a command is running at position `p`. -/
def running (w a0 a1 a2 : Word) (p : Option Pos) : State :=
  { State.reset with
    cmd := w, status := { Status.reset with busy := true, configured := true }, eng := .exec (latch w a0 a1 a2) p }

/-- A running command whose next polls are answered by `as`. -/
def answered (w a0 a1 a2 : Word) (p : Option Pos) (as : List Answer) : State :=
  { running w a0 a1 a2 p with answers := as }

/-- A position in a phase of a job whose first poll is still to come. -/
def opening (j : Job) (ph : Phase) : Pos :=
  { job := j, phase := ph, since := none, origin := 0, xact := 0, byte := 0, pending := 0 }

/-- A position in a phase that started at TICK `t`. -/
def waiting (j : Job) (ph : Phase) (t : Word) : Pos := { opening j ph with since := some t }

/-- Read a field of the next state. -/
def look {α : Type} (f : State → α) : Host.Outcome State Fault Refusal → Option α
  | .next s => some (f s)
  | .fault _ => none
  | .refused _ => none

/-! ## BusDriver -/

/-- V-B8: NOP completes with STATUS 0x100 and RESULT 0. -/
theorem test_nop :
    look (fun t => (statusWord t.status, t.result)) (exec .nop (running 0 0 0 0 none)) = some (0x100, 0) := by decide

/-- V-B1: BUS_INIT 42000000, 400000. -/
theorem test_bus_init :
    let t := busInit params93 false (latch 1 0x0280DE80 0x00061A80 0) (running 1 0x0280DE80 0x00061A80 0 none)
    (t.busCcr, t.busTrise, statusWord t.status, t.result, t.bh) = (0x8023, 13, 0x100, 0, []) := by decide

/-- V-B4: BUS_INIT with FREQ 0 halts; a later CMD write is dropped without OVERRUN. -/
theorem test_bus_init_halt :
    let t := busInit params93 false (latch 1 0x0280DE80 0 0) (running 1 0x0280DE80 0 0 none)
    (statusWord t.status, t.faults, t.cmd) = (0x2060, [.halted], 1) ∧
      statusWord (t.writeCmd 0).status = 0x2060 ∧ (t.writeCmd 0).cmd = 1 := by decide

/-- V-B10 at its first poll: BUSY_WAIT emits nothing, and `idle` leads to START. -/
theorem test_transmit_first_poll :
    look (fun t => (t.bh, match t.eng with
      | .exec _ (some p) => some p.phase
      | _ => none)) (exec .transmit (answered 2 0x79 0 0 none [.idle])) = some ([.got .idle], some .start) := by decide

/-- V-B20 at its timeout: DATA byte 1 unanswered for 36 ticks. -/
theorem test_transmit_timeout :
    look (fun t => (statusWord t.status, t.errInfo, t.result, t.bh))
      (exec .transmit { answered 2 0x78 2 0 (some { waiting (.item 0) .data 100 with byte := 1, pending := 1 })
        [.nothing] with tick := 136 }) = some (0x910, 0x104, 1, []) := by decide

/-- V-B13: the one byte of RECEIVE 0x3C, 1, 255 is not acknowledged and goes to STAGE[255]. -/
theorem test_receive_last_byte :
    look (fun t => (t.stage, t.bh))
      (exec .receive (answered 3 0x3C 1 255 (some (opening (.item 0) .data)) [.byteIn 0xC3])) =
      some ([(255, 0xC3)], [.act (.rx false), .got (.byteIn 0xC3)]) := by decide

/-- V-B13: RECEIVE addresses the target with bit 0 set. -/
theorem test_receive_address :
    look (fun t => t.bh) (exec .receive (answered 3 0x3C 1 255 (some (opening (.item 0) .addr)) [.ack])) =
      some [.act (.addr 0x3D), .got .ack] := by decide

/-- V-B25: no trial is DEVICE_NOT_READY with an empty BH. -/
theorem test_is_device_ready_no_trial :
    look (fun t => (statusWord t.status, t.result, t.bh)) (exec .isDeviceReady (answered 4 0x78 0 10 none [.idle])) =
      some (0x120, 0, []) := by decide

/-- V-B26 at the end of its third trial. -/
theorem test_is_device_ready_third :
    look (fun t => (statusWord t.status, t.result))
      (exec .isDeviceReady (answered 4 0x78 3 10 (some { opening (.probe 3 true) .stop with pending := 0x00030000 })
        [.stopDone])) = some (0x100, 0x00030001) := by decide

/-! ## DisplayController -/

/-- V-D4 at its timeout: DISP_READY is cleared, transaction 3 did not get past ADDR. -/
theorem test_disp_init_timeout :
    let t := busStep params93 true (dispInitCmd params93 (latch 0x10 0 0 0)) (latch 0x10 0 0 0)
      (some { waiting (.item 2) .addr 0 with xact := 3 })
      { answered 0x10 0 0 0 none [.nothing] with
        tick := 36, status := { Status.reset with busy := true, configured := true, dispReady := true } }
    (statusWord t.status, t.errInfo, t.result) = (0x910, 0x03000003, 0) := by decide

/-- V-D1: the bytes of INIT_SEQ and the last completion, RESULT 1 and STATUS 0x300. -/
theorem test_disp_init_end :
    params93.initSeq.bytes = [0xAE, 0xD5, 0x80, 0xA8, 0x3F, 0xD3, 0x00, 0x8D, 0x14, 0xA1, 0xDA, 0x12, 0x81, 0xCF, 0xAF] ∧
    let t := busStep params93 true (dispInitCmd params93 (latch 0x10 0 0 0)) (latch 0x10 0 0 0)
      (some (waiting (.item 14) .stop 0)) (answered 0x10 0 0 0 none [.stopDone])
    (statusWord t.status, t.result) = (0x300, 1) := by decide

/-- V-D19: FILL.W sets the bytes to 0xFF; the first, the last and the bytes beside a page border. -/
theorem test_fill :
    look (fun t => (t.fb.length, t.fb.all (fun c => c.2 == 0xFF))) (exec (.fill .white) (running 0x111 0 0 0 none)) =
      some (1024, true) := by decide +kernel

/-- V-D20: CLEAR. -/
theorem test_clear :
    look (fun t => (t.fb.length, t.fb.all (fun c => c.2 == 0x00))) (exec .clear (running 0x12 0 0 0 none)) =
      some (1024, true) := by decide +kernel

/-- V-D5: the transaction and the byte at which it fails, FB[260]. -/
theorem test_update_screen_byte :
    let s := { answered 0x13 0 0 0 none [.nothing] with fb := [(260, 0x5A)] }
    let t := busStep params93 true (updateScreenCmd params93 (latch 0x13 0 0 0)) (latch 0x13 0 0 0)
      (some { opening (.item 11) .data with byte := 5, xact := 11 }) s
    t.bh = [.act (.tx 0x5A)] := by decide

/-- V-D2: 32 transactions, 8 of them data transactions, and page 7's page command. -/
theorem test_update_screen_items :
    let c := updateScreenCmd params93 (latch 0x13 0 0 0)
    (c.items.length, (c.items.filter fun x => x.length = 129).length, c.items[28]?) =
      (32, 8, some (.write 0x78 (.literal [0x00, 0xB7]))) := by decide

/-- V-C1: GOTOXY 200, -5. -/
theorem test_gotoxy_clamps :
    look (fun t => cursorWord t.cursor) (exec .gotoXY (running 0x14 0xFFFB00C8 0 0 none)) = some 0x0000007F := by decide

/-- V-C5: GOTOXY -32768, 32767. -/
theorem test_gotoxy_extremes :
    look (fun t => cursorWord t.cursor) (exec .gotoXY (running 0x14 0x7FFF8000 0 0 none)) = some 0x003F0000 := by decide

/-- V-T6: PUTC exactly fits at (125, 59). -/
theorem test_putc_exact_fit :
    let s := { running 0x315 0x41 0 0 none with
      cursor := { cx := 125, cy := 59 }, fb := [(1021, 0), (1022, 0), (1023, 0)] }
    let t := putcStep (params93.font 1) .white (latch 0x315 0x41 0 0) s
    (t.fb, t.cursor.cx, t.cursor.cy, t.status.err) =
      ([(1021, 0xF8), (1022, 0xF8), (1023, 0xF8)], 128, 59, .ok) := by decide

/-- V-T7: PUTC does not fit after the wrap. -/
theorem test_putc_exhausted :
    let s := { running 0x315 0x42 0 0 none with cursor := { cx := 128, cy := 59 } }
    let t := putcStep (params93.font 1) .white (latch 0x315 0x42 0 0) s
    (t.fb, t.cursor.cx, t.cursor.cy, t.status.err, t.result) = ([], 128, 59, .bufferExhausted, 0x42) := by decide

/-- V-T13: the second character of PUTS fails, the first stays. -/
theorem test_puts_second_fails :
    let s := { running 0x316 16 0 0 none with
      cursor := { cx := 123, cy := 59 }, fb := [(1019, 0), (1020, 0), (1021, 0)],
      stage := [(16, 0x41), (17, 0x42), (18, 0)] }
    let t := putsStep (params93.font 1) .white (latch 0x316 16 0 0) s
    (t.fb, t.cursor.cx, t.status.err, t.result) =
      ([(1019, 0xF8), (1020, 0xF8), (1021, 0xF8)], 126, .bufferExhausted, 0x42) := by decide

/-- V-T15: the string ends after STAGE[255]. -/
theorem test_puts_end_of_stage :
    let s := { running 0x316 254 0 0 none with
      fb := [(0, 0), (1, 0), (2, 0), (3, 0), (4, 0), (5, 0)], stage := [(254, 0x41), (255, 0x42)] }
    let t := putsStep (params93.font 1) .white (latch 0x316 254 0 0) s
    (t.fb.all (fun c => c.2 == 0x1F), t.cursor.cx, t.status.err, t.result) = (true, 6, .ok, 0) := by decide

/-- V-D7: the byte and the end of the first TOGGLE_INVERT. -/
theorem test_toggle_invert :
    (toggleInvertCmd params93 (latch 0x17 0 0 0) (running 0x17 0 0 0 none)).items =
      [.write 0x78 (.literal [0x00, 0xA7])] ∧
    look (fun t => statusWord t.status)
      (exec .toggleInvert (answered 0x17 0 0 0 (some (waiting (.item 0) .stop 0)) [.stopDone])) = some 0x500 := by decide

/-- V-D8: the end of INVERT_DISPLAY.Q. -/
theorem test_invert_display :
    (invertDisplayCmd params93 true (latch 0x818 0 0 0)).items = [.write 0x78 (.literal [0x00, 0xA7])] ∧
    look (fun t => statusWord t.status)
      (exec (.invertDisplay true) (answered 0x818 0 0 0 (some (waiting (.item 0) .stop 0)) [.stopDone])) =
      some 0x500 := by decide

/-- The bytes a display command sends after CTRL_CMD. -/
def sentBytes (c : BusCmd) : List Byte :=
  c.items.flatMap fun x => match x with
    | .write _ (.literal bs) => bs.drop 1
    | _ => []

/-- V-D15: SCROLL_RIGHT 9, 3 is sent unchecked. -/
theorem test_scroll_right :
    sentBytes (scrollCmd params93.scrollRight (latch 0x19 0x00000309 0 0)) =
      [0x26, 0x00, 0x09, 0x00, 0x03, 0x00, 0xFF, 0x2F] := by decide

/-- V-D12: SCROLL_LEFT 2, 5. -/
theorem test_scroll_left :
    sentBytes (scrollCmd params93.scrollLeft (latch 0x1A 0x00000502 0 0)) =
      [0x27, 0x00, 0x02, 0x00, 0x05, 0x00, 0xFF, 0x2F] := by decide

/-- V-D13: SCROLL_DIAG_RIGHT 0, 7. -/
theorem test_scroll_diag_right :
    sentBytes (scrollCmd params93.scrollDiagRight (latch 0x1B 0x00000700 0 0)) =
      [0xA3, 0x00, 0x40, 0x29, 0x00, 0x00, 0x00, 0x07, 0x01, 0x2F] := by decide

/-- V-D14: SCROLL_DIAG_LEFT 0, 7. -/
theorem test_scroll_diag_left :
    sentBytes (scrollCmd params93.scrollDiagLeft (latch 0x1C 0x00000700 0 0)) =
      [0xA3, 0x00, 0x40, 0x2A, 0x00, 0x00, 0x00, 0x07, 0x01, 0x2F] := by decide

/-- V-D17: STOP_SCROLL. -/
theorem test_stop_scroll : sentBytes (stopScrollCmd params93 (latch 0x1D 0 0 0)) = [0x2E] := by decide

/-! ## GraphicsEngine -/

/-- V-G1: DRAW_PIXEL.W 5, 10. -/
theorem test_draw_pixel :
    look (fun t => t.fb) (exec (.drawPixel .white) { running 0x120 0x000A0005 0 0 none with fb := [(133, 0)] }) =
      some [(133, 0x04)] := by decide

/-- V-G3: DRAW_PIXEL.W -1, 0 is off the screen. -/
theorem test_draw_pixel_off_screen :
    look (fun t => (t.fb, t.status.err)) (exec (.drawPixel .white) (running 0x120 0x0000FFFF 0 0 none)) =
      some ([], .ok) := by decide

/-- V-G5: DRAW_LINE.W 0, 0, 4, 2. -/
theorem test_draw_line :
    look (fun t => t.fb) (exec (.drawLine .white)
      { running 0x121 0 0x00020004 0 none with fb := [(0, 0), (1, 0), (2, 0), (3, 0), (4, 0)] }) =
      some [(0, 0x01), (1, 0x01), (2, 0x02), (3, 0x02), (4, 0x04)] := by decide

/-- V-G7: DRAW_LINE.W 2, 1, 0, 0 plots from the endpoint that is first in the fixed order. -/
theorem test_line_reordered : linePoints (2, 1) (0, 0) = [(0, 0), (1, 0), (2, 1)] := by decide

/-- V-G13: DRAW_RECT.W 10, 0, 4, 3. -/
theorem test_draw_rect :
    look (fun t => t.fb) (exec (.drawRect .white)
      { running 0x122 0x0000000A 0x00030004 0 none with fb := [(10, 0), (11, 0), (12, 0), (13, 0)] }) =
      some [(10, 0x07), (11, 0x05), (12, 0x05), (13, 0x07)] := by decide

/-- V-G15b: a width or a height of 0 draws nothing. -/
theorem test_rect_empty : rectPoints (10, 0) 0 3 = [] ∧ filledRectPoints (10, 0) 4 0 = [] := by decide

/-- V-G14: DRAW_FILLED_RECT.W 10, 0, 4, 3. -/
theorem test_draw_filled_rect :
    look (fun t => t.fb) (exec (.drawFilledRect .white)
      { running 0x123 0x0000000A 0x00030004 0 none with fb := [(10, 0), (11, 0), (12, 0), (13, 0)] }) =
      some [(10, 0x07), (11, 0x07), (12, 0x07), (13, 0x07)] := by decide

/-- V-G15d: DRAW_TRIANGLE.W 0, 0, 2, 0, 0, 2. -/
theorem test_draw_triangle :
    look (fun t => t.fb) (exec (.drawTriangle .white)
      { running 0x124 0 0x00000002 0x00020000 none with fb := [(0, 0), (1, 0), (2, 0)] }) =
      some [(0, 0x07), (1, 0x03), (2, 0x01)] := by decide

/-- V-G18: DRAW_CIRCLE.W 64, 32, 1. -/
theorem test_draw_circle :
    look (fun t => t.fb) (exec (.drawCircle .white)
      { running 0x125 0x00200040 1 0 none with fb := [(448, 0), (575, 0), (576, 0), (577, 0)] }) =
      some [(448, 0x80), (575, 0x01), (576, 0x02), (577, 0x01)] := by decide

/-- V-G19: the 12 pixels of the circle of radius 2 around (64, 32). -/
theorem test_circle_radius_two :
    (circlePoints (64, 32) 2).eraseDups.length = 12 ∧ ((62, 31) : Point) ∈ circlePoints (64, 32) 2 ∧
      ((62, 30) : Point) ∉ circlePoints (64, 32) 2 := by decide

/-- V-G20: DRAW_FILLED_CIRCLE.W 64, 32, 1. -/
theorem test_draw_filled_circle :
    look (fun t => t.fb) (exec (.drawFilledCircle .white)
      { running 0x126 0x00200040 1 0 none with fb := [(448, 0), (575, 0), (576, 0), (577, 0)] }) =
      some [(448, 0x80), (575, 0x01), (576, 0x03), (577, 0x01)] := by decide

/-- V-G26: DRAW_BITMAP.W 20, 0, 8, 2, 255 reads zero past STAGE[255]. -/
theorem test_draw_bitmap_past_stage :
    look (fun t => t.fb) (exec (.drawBitmap .white)
      { running 0x127 0x00000014 0x00020008 255 none with
        fb := [(20, 0), (22, 0), (25, 0), (27, 0)], stage := [(255, 0xA5)] }) =
      some [(20, 0x01), (22, 0x01), (25, 0x01), (27, 0x01)] := by decide

/-- V-G24: the second row of a bitmap ten pixels wide starts at its third byte. -/
theorem test_bitmap_rows :
    bitmapPoints (fun k => [0xFF#8, 0xC0#8, 0x80#8, 0x40#8].getD k 0) (0, 8) 10 2 =
      [(0, 8), (1, 8), (2, 8), (3, 8), (4, 8), (5, 8), (6, 8), (7, 8), (8, 8), (9, 8), (0, 9), (9, 9)] := by decide

/-! ## The host port, checks, ticks and reset -/

/-- V-M1: a 32-bit read of the FB window is little-endian. -/
theorem test_window_read :
    (hostAccess { State.reset with fb := [(0, 0x01), (1, 0x00), (2, 0x02), (3, 0x02)] } (.read 0x400 .b32)).reply =
      some 0x02020001 := by decide

/-- V-M4: a 32-bit write of the STAGE window. -/
theorem test_window_write :
    (hostAccess State.reset (.write 0x800 .b32 0x44332211)).stage = [(0, 0x11), (1, 0x22), (2, 0x33), (3, 0x44)] := by
  decide

/-- V-M5, V-M8: a misaligned read, and one while a command runs that is misaligned too (20 R53, 70 R195). -/
theorem test_bad_window_reads :
    (hostAccess State.reset (.read 0x402 .b32)).faults = [.hostBadAccess 0x402 .b32 .read] ∧
    (hostAccess (running 0x13 0 0 0 none) (.read 0x400 .b8)).faults = [.hostAccessWhileBusy 0x400 .read] ∧
    (hostAccess (running 0x13 0 0 0 none) (.read 0x402 .b32)).faults =
      [.hostAccessWhileBusy 0x402 .read, .hostBadAccess 0x402 .b32 .read] := by decide

/-- V-M6, V-M7: a byte write of a register, and a read of a reserved offset. -/
theorem test_bad_register_accesses :
    (hostAccess State.reset (.write 0x004 .b8 0)).faults = [.hostBadAccess 0x004 .b8 .write] ∧
    (hostAccess State.reset (.read 0x900 .b32)).faults = [.hostBadAccess 0x900 .b32 .read] ∧
    (hostAccess State.reset (.read 0x03C .b32)).faults = [.hostBadAccess 0x03C .b32 .read] := by decide

/-- V-M10: a CMD write while busy is dropped with OVERRUN. -/
theorem test_overrun :
    let t := hostAccess (running 0x13 0 0 0 none) (.write 0x000 .b32 0x12)
    (statusWord t.status, t.cmd) = (0x1101, 0x13) := by decide

/-- V-M12: a write of all ones to STATUS clears OVERRUN only. -/
theorem test_status_write :
    statusWord (hostAccess { State.reset with status := { Status.reset with overrun := true, halted := true } }
      (.write 0x004 .b32 0xFFFFFFFF)).status = 0x2000 := by decide

/-- V-M15: DISP_ADDR keeps bits 7:0. -/
theorem test_disp_addr :
    (hostAccess (hostAccess State.reset (.write 0x038 .b32 0xFFFFFF7A)) (.read 0x038 .b32)).reply =
      some 0x0000007A := by decide

/-- The offsets of 20 R51 hand back distinct registers; TO_FLAG, TO_BUSY and TO_STOP read 35, 25 and 5 after reset. -/
theorem test_budget_registers :
    (hostAccess State.reset (.read 0x02C .b32)).reply = some 35 ∧ (hostAccess State.reset (.read 0x030 .b32)).reply = some 25 ∧
      (hostAccess State.reset (.read 0x034 .b32)).reply = some 5 := by decide

/-- 20 R51: with BASE at the test's address, BASE + 0x038 is DISP_ADDR and BASE + 0x800 is STAGE[0]. -/
theorem test_host_base :
    (hostStep params93.base (.write 0x40000038 .b32 0x7A) State.reset).dispAddr = 0x7A ∧
    (hostStep params93.base (.write 0x40000800 .b8 0x11) State.reset).stage = [(0, 0x11)] := by decide

/-- 20 R51: the block ends at BASE + 0xFFF, which is a reserved offset (20 R55); the addresses beside it are no access
to the CORE. -/
theorem test_host_outside_block :
    (hostStep params93.base (.read 0x40000FFF .b8) State.reset).faults = [.hostBadAccess 0xFFF .b8 .read] ∧
    (hostStep params93.base (.read 0x40001000 .b32) State.reset).faults = [] ∧
    (hostStep params93.base (.write 0x3FFFFFFF .b8 1) State.reset).faults = [] := by decide

/-- V-B6: TRANSMIT without CONFIGURED. -/
theorem test_not_configured :
    look (fun t => (statusWord t.status, t.bh))
      (exec .transmit { running 2 0x78 2 0 none with status := { Status.reset with busy := true } }) =
      some (0x50, []) := by decide

/-- 95 section 2.3: TRANSMIT of 257 bytes and RECEIVE of none are illegal, TRANSMIT of 256 from 0 is not. -/
theorem test_operand_checks :
    look (fun t => statusWord t.status) (exec .transmit (running 2 0x78 257 0 none)) = some 0x140 ∧
    look (fun t => statusWord t.status) (exec .receive (running 3 0x78 0 0 none)) = some 0x140 ∧
    transmitLegal (latch 2 0x78 256 0) = true ∧ transmitLegal (latch 2 0x78 0x200 0xFF) = true ∧
    transmitLegal (latch 2 0x78 256 1) = false ∧ receiveLegal (latch 3 0x78 16 0xF8) = false := by decide

/-- An accepted illegal word of 95 section 2.2 reports ERR 4. -/
theorem test_illegal_word :
    look (fun t => statusWord t.status) (step ((State.reset).withFetchWord 32 0x00000005)) = some 0x40 := by decide

/-- V-B17: at TICK 0x13 the wait that began at 0xFFFFFFF0 has lasted 35 ticks and goes on; at 0x14 it times out. -/
theorem test_elapsed_wraps :
    look (fun t => t.status.err) (exec .transmit
      { answered 2 0x78 2 0 (some (waiting (.item 0) .start 0xFFFFFFF0)) [.nothing] with tick := 0x13 }) = some .ok ∧
    look (fun t => (t.status.err, t.errInfo)) (exec .transmit
      { answered 2 0x78 2 0 (some (waiting (.item 0) .start 0xFFFFFFF0)) [.nothing] with tick := 0x14 }) =
      some (.busTimeout, 2) := by decide

/-- TICK wraps (10 R30). -/
theorem test_tick_wraps : (tickStep { State.reset with tick := 0xFFFFFFFF }).tick = 0 := by decide

/-- V-C6 and 70 R192: STATUS and CURSOR read 0 after reset, and the FB is drawn anew. -/
theorem test_reset :
    (hostAccess State.reset (.read 0x004 .b32)).reply = some 0 ∧
    (hostAccess State.reset (.read 0x020 .b32)).reply = some 0 ∧
    (resetStep (running 0x13 0 0 0 none)).eng = .idle ∧ (resetStep (running 0x13 0 0 0 none)).ramDraw = 1 := by decide

/-- The canonical form of a RAM is lost by a repeated, an unsorted or an outside address. -/
theorem test_memory_form :
    Memory.wf 256 [(0, 1), (255, 0)] = true ∧ Memory.wf 256 [(1, 0), (1, 0)] = false ∧
    Memory.wf 256 [(2, 0), (1, 0)] = false ∧ Memory.wf 256 [(256, 0)] = false := by decide

/-! ## Witnesses: the hypotheses of each statement are met together, clause by clause at a boundary -/

theorem test_witness_DecodeOfEncodeIsTheInstruction :
    Instr.wf (.putc .white 0) = true ∧ Instr.wf (.puts .black 3) = true ∧ Instr.wf .nop = true := by decide

theorem test_witness_EncodeOfDecodeIsTheWord : decode 0x00000716#32 = .ok (.puts .white 3) := by decide

/-- The row of DRAW_BITMAP, the last of 30 R75. -/
def bitmapRow : Row := ⟨0x27, .c, fun w => .drawBitmap (fieldC w)⟩

theorem test_witness_LegalWordsAreTheRowsWords :
    bitmapRow ∈ opcodeRows ∧ (0x00000127#32 &&& bitmapRow.format.mask) = bitmapRow.matchWord ∧
      bitmapRow.op = fieldOp 0x00000327#32 ∧ (0x00000327#32 &&& bitmapRow.format.mask) ≠ bitmapRow.matchWord :=
  ⟨by simp [opcodeRows, graphicsRows, bitmapRow], by decide, by decide, by decide⟩

theorem test_witness_IllegalWordsCompleteWithNoOtherEffect :
    (running 0x28 0 0 0 none).eng = .exec (latch 0x28 0 0 0) none ∧
      decode (latch 0x28 0 0 0).cmd = .error .unassignedOp ∧ decode (latch 0x112 0 0 0).cmd = .error .strayBits := by
  decide

theorem test_witness_OperandChecksDecideIllegality :
    ((running 2 0x78 256 1 none).eng = .exec (latch 2 0x78 256 1) none ∧ (running 2 0x78 256 1 none).status.err = .ok ∧
      illegalOperands .transmit (latch 2 0x78 256 1)) ∧
    ¬ illegalOperands .transmit (latch 2 0x78 256 0) ∧
    illegalOperands .receive (latch 3 0x78 0 0) ∧ ¬ illegalOperands .receive (latch 3 0x78 1 255) ∧
    ¬ illegalOperands (.putc .white 0) (latch 0x115 0x41 0 0) ∧ ¬ illegalOperands (.puts .white 0) (latch 0x116 0 0 0) := by
  simp only [illegalOperands]
  decide

/-- Engine events, a free turn and a table word; host events at the first and last address of the block and on both
sides of it. The lower side is met only where BASE is not 0. -/
theorem test_witness_StepRunsTheDecodedCommand :
    ({ running 0x12 0 0 0 none with schedule := [.engine, .tick] } : State).eng = .exec (latch 0x12 0 0 0) none ∧
    ({ running 0x12 0 0 0 none with schedule := [.engine, .tick] } : State).schedule = .engine :: [.tick] ∧
    (running 0x12 0 0 0 none).schedule = [] ∧ decode (latch 0x12 0 0 0).cmd = .ok .clear ∧
    ((0x127 : Nat) < 2 ^ 32 ∧ decode (BitVec.ofNat 32 0x127) = .ok (.drawBitmap .white)) ∧
    ({ State.reset with schedule := [.host (.read (Config.params.base + (0x000#12).toNat) .b32)] } : State).schedule =
      .host (.read (Config.params.base + (0x000#12).toNat) .b32) :: [] ∧
    ({ State.reset with schedule := [.host (.write (Config.params.base + (0xFFF#12).toNat) .b8 1)] } : State).schedule =
      .host (.write (Config.params.base + (0xFFF#12).toNat) .b8 1) :: [] ∧
    (Config.params.base + 4096 < Config.params.base ∨ Config.params.base + 4096 ≤ Config.params.base + 4096) ∧
    (0 < Config.params.base → Config.params.base - 1 < Config.params.base ∨
      Config.params.base + 4096 ≤ Config.params.base - 1) :=
  ⟨rfl, rfl, rfl, by decide, ⟨by decide, by decide⟩, rfl, rfl, .inr (Nat.le_refl _),
    fun h => .inl (Nat.sub_lt h Nat.one_pos)⟩

theorem test_witness_EveryStepAnswersANextState :
    (running 0x12 0 0 0 none).eng = .exec (latch 0x12 0 0 0) none ∧ State.reset.eng = .idle := by decide

theorem test_witness_CommandWriteHasThreeCases :
    ({ Status.reset with halted := true } : Status).halted = true ∧
    ((running 0x12 0 0 0 none).status.halted = false ∧ (running 0x12 0 0 0 none).status.busy = true) ∧
    (State.reset.status.halted = false ∧ State.reset.status.busy = false) := by decide

theorem test_witness_RunningCommandIgnoresLaterWrites : ∃ t, exec .transmit (running 2 0x78 2 0 none) = .next t :=
  ⟨_, rfl⟩

theorem test_witness_EngineWritesOnlyItsOwnRegisters :
    (∃ t, exec .scrollLeft (running 0x1A 0 0 0 none) = .next t) ∧
    (∀ c k, Instr.scrollLeft ≠ .putc c k) ∧ (∀ c k, Instr.scrollLeft ≠ .puts c k) ∧ Instr.scrollLeft ≠ .gotoXY ∧
    ∀ q, Instr.scrollLeft ≠ .busInit q := by
  refine ⟨⟨_, rfl⟩, ?_, ?_, ?_, ?_⟩ <;> simp

theorem test_witness_StatusBitsHaveTheirWriters :
    (∃ t, exec .transmit { answered 2 0x78 2 0 (some (waiting (.item 0) .stop 0)) [.nothing] with tick := 6 } = .next t ∧
      t.status.busDirty = true ∧ t.eng = .idle) ∧
    (running 2 0x78 2 0 none).status.busDirty = false ∧ (∀ q, Instr.transmit ≠ .busInit q) ∧
    Instr.transmit ≠ .dispInit ∧ Instr.transmit ≠ .toggleInvert ∧ ∀ q, Instr.transmit ≠ .invertDisplay q := by
  refine ⟨⟨_, rfl, by decide, by decide⟩, rfl, ?_, ?_, ?_, ?_⟩ <;> simp

/-- The clauses of the same statement about INVERTED and DISP_READY: each really changes in some step, and the engine
also takes steps after which it still runs. -/
theorem test_witness_StatusBitsThatACommandChanges :
    (∃ t, exec .toggleInvert (answered 0x17 0 0 0 (some (waiting (.item 0) .stop 0)) [.stopDone]) = .next t ∧
      t.status.inverted ≠ Status.reset.inverted) ∧
    (∃ k t, exec .dispInit (answered 0x10 0 0 0 (some (waiting (.item k) .stop 0)) [.stopDone]) = .next t ∧
      Status.reset.dispReady = false ∧ t.status.dispReady = true) ∧
    (let s := answered 0x10 0 0 0 (some (waiting (.probe 1 false) .addr 0)) [.nothing]
     ∃ t, exec .dispInit { s with tick := 36, status := { s.status with dispReady := true } } = .next t ∧
       t.status.dispReady = false) ∧
    ∃ t, exec .transmit (answered 2 0x78 2 0 (some (waiting (.item 0) .addr 0)) [.ack]) = .next t ∧ t.eng ≠ .idle := by
  refine ⟨⟨_, rfl, by decide⟩, ?_, ⟨_, rfl, by decide⟩, ⟨_, rfl, by decide⟩⟩
  obtain ⟨t, ht, h⟩ : ∃ t, exec .dispInit (answered 0x10 0 0 0
      (some (waiting (.item (dispInitCmd Config.params (latch 0x10 0 0 0)).items.length) .stop 0)) [.stopDone]) =
      .next t ∧ t.status.dispReady = true := by
    refine ⟨_, rfl, ?_⟩
    simp [busStep, busPoll, BusCmd.current, waiting, opening, busSucceed, successStatus, dispInitCmd, State.complete]
  exact ⟨_, t, ht, rfl, h⟩

/-- The host's clauses of the same statement: acceptance raises BUSY, a CMD write while BUSY sets OVERRUN, and a 1 in
bit 12 of a STATUS write clears it. -/
theorem test_witness_StatusBitsThatTheHostChanges :
    (hostAccess { State.reset with status := { Status.reset with err := .busTimeout } } (.write 0x000 .b32 0)).status =
      { Status.reset with busy := true } ∧
    (hostAccess (running 0x13 0 0 0 none) (.write 0x000 .b32 0)).status.overrun = true ∧
    (hostAccess { State.reset with status := { Status.reset with overrun := true } }
      (.write 0x004 .b32 0x1000)).status.overrun = false := by decide

theorem test_witness_NopOnlyReports :
    (running 0 0 0 0 none).eng = .exec (latch 0 0 0 0) none ∧
    (running 0x80000000 0 0 0 none).eng = .exec (latch 0x80000000 0 0 0) none ∧
    fieldOp (latch 0x80000000 0 0 0).cmd = 0x00#8 ∧ (latch 0x80000000 0 0 0).cmd.extractLsb' 8 24 ≠ 0#24 := by decide

theorem test_witness_BusInitProgramsOrHalts :
    (running 1 0x0280DE80 0x00061A80 0 none).eng = .exec (latch 1 0x0280DE80 0x00061A80 0) none := by decide

/-- The CORE after a failed BUS_INIT (V-B5). -/
def haltedState : State :=
  { State.reset with
    cmd := 1, status := { Status.reset with err := .configUnprogrammable, halted := true }, faults := [.halted]
    schedule := [.host (.write Config.params.base .b32 0)] }

theorem test_witness_TheHaltIsForGood :
    StateInv haltedState ∧ haltedState.status.halted = true ∧ nextEvent haltedState ≠ .reset ∧
      ∃ t, step haltedState = .next t :=
  ⟨⟨⟨rfl, rfl⟩, rfl, by unfold reportOk; decide, by unfold cursorOk; decide, by unfold haltOk; decide,
    by unfold faultsOk; decide⟩, rfl, by decide, ⟨_, rfl⟩⟩

theorem test_witness_BusCommandsNeedConfiguration :
    let s := { running 2 0x78 256 0 none with status := { Status.reset with busy := true } }
    usesBus .transmit = true ∧ s.eng = .exec (latch 2 0x78 256 0) none ∧ s.status.configured = false ∧
      ¬ illegalOperands .transmit (latch 2 0x78 256 0) := by
  simp only [illegalOperands]
  decide

theorem test_witness_AddressByteCarriesDirection :
    (1 : Nat) ≤ 1 ∧ addrByte 0x79 false = 0x78#8 ∧ addrByte 0x78 true = 0x79#8 := by decide

theorem test_witness_BudgetsFollowThePhase :
    busCmdOf .transmit (latch 2 0x78 2 0) State.reset = some (transmitCmd (latch 2 0x78 2 0)) ∧
    busCmdOf .isDeviceReady (latch 4 0x78 2 10) State.reset = some (isDeviceReadyCmd (latch 4 0x78 2 10)) ∧
    Instr.transmit ≠ .isDeviceReady ∧ (opening (.probe 2 false) .start).phase = .start ∧
    (opening (.probe 2 false) .start).job = .probe 2 false :=
  ⟨rfl, rfl, by decide, rfl, rfl⟩

/-- The last tick within the budget 35 and the first beyond it (V-B16). -/
theorem test_witness_UnansweredPollWaitsOrTimesOut :
    let p := waiting (.item 0) .addr 100
    let s := { answered 2 0x78 2 0 (some p) [.nothing] with tick := 135 }
    let c := transmitCmd (latch 2 0x78 2 0)
    s.eng = .exec (latch 2 0x78 2 0) (some p) ∧ busCmdOf .transmit (latch 2 0x78 2 0) s = some c ∧
    InXact c p (.write 0x78 (.stage 0 2)) ∧ wanted (.write 0x78 (.stage 0 2)) p.phase s.nextAnswer = false ∧
    (s.tick - budgetStart s p).toNat ≤ (phaseBudget c (latch 2 0x78 2 0) p).toNat ∧
    ¬ (s.tick + 1 - budgetStart s p).toNat ≤ (phaseBudget c (latch 2 0x78 2 0) p).toNat :=
  ⟨rfl, rfl, rfl, by decide, by decide, by decide⟩

/-- The same statement at a first poll: BUSY_WAIT starts both ticks, so it waits whatever TIMEOUT_ORIGIN is; a later
phase under TRANSACTION_START counts from the transaction's start, and may time out at its first poll (V-B23). -/
theorem test_witness_UnansweredFirstPoll :
    (let p := opening (.item 0) .busyWait
     let s := { answered 2 0x78 2 0 (some p) [.nothing] with tick := 900 }
     InXact (transmitCmd (latch 2 0x78 2 0)) p (.write 0x78 (.stage 0 2)) ∧ p.since = none ∧
       wanted (.write 0x78 (.stage 0 2)) p.phase s.nextAnswer = false ∧ budgetStart s p = 900) ∧
    (let p := opening (.item 0) .start
     let s := { answered 2 0x78 2 0 (some p) [.nothing] with tick := 36 }
     p.since = none ∧ wanted (.write 0x78 (.stage 0 2)) p.phase s.nextAnswer = false ∧
       budgetStart s p = (if Config.params.timeoutOrigin = .phaseStart then 36 else 0)) := by
  refine ⟨⟨rfl, rfl, by decide, ?_⟩, rfl, by decide, rfl⟩
  simp [budgetStart, xactStart, opening]

/-- Each row of the table of answers, and an answered DATA poll. -/
theorem test_witness_AnsweredPhaseLeadsToTheNext :
    let p := { waiting (.item 0) .data 100 with byte := 1 }
    let s := answered 2 0x78 2 0 (some p) [.byteDone]
    s.eng = .exec (latch 2 0x78 2 0) (some p) ∧
    busCmdOf .transmit (latch 2 0x78 2 0) s = some (transmitCmd (latch 2 0x78 2 0)) ∧
    InXact (transmitCmd (latch 2 0x78 2 0)) p (.write 0x78 (.stage 0 2)) ∧
    wanted (.write 0x78 (.stage 0 2)) p.phase s.nextAnswer = true ∧ p.phase ≠ .stop ∧ p.since = some 100 ∧
    wanted (.write 0x78 (.stage 0 2)) .busyWait .idle = true ∧ wanted (.write 0x78 (.stage 0 2)) .start .startDone = true ∧
    wanted (.write 0x78 (.stage 0 2)) .addr .ack = true ∧ wanted (.probe 0x78) .addr .nack = true ∧
    wanted (.read 0x78 0 1) .data (.byteIn 0) = true :=
  ⟨rfl, rfl, rfl, by decide, by decide, rfl, by decide, by decide, by decide, by decide, by decide⟩

/-- Its last clause: the STOP of DISP_INIT's acknowledged probe, and of the first of the items of UPDATE_SCREEN. -/
theorem test_witness_StopLeadsToTheNextTransaction :
    (let p := waiting (.probe 1 true) .stop 0
     let s := answered 0x10 0 0 0 (some p) [.stopDone]
     s.eng = .exec (latch 0x10 0 0 0) (some p) ∧
       busCmdOf .dispInit (latch 0x10 0 0 0) s = some (dispInitCmd Config.params (latch 0x10 0 0 0)) ∧
       InXact (dispInitCmd Config.params (latch 0x10 0 0 0)) p (.probe 0x78) ∧ p.phase = .stop ∧
       s.nextAnswer = .stopDone ∧ p.job = .probe 1 true ∧
       ∃ y, (dispInitCmd Config.params (latch 0x10 0 0 0)).items[0]? = some y) ∧
    (let p := waiting (.item 0) .stop 0
     let s := answered 0x13 0 0 0 (some p) [.stopDone]
     s.eng = .exec (latch 0x13 0 0 0) (some p) ∧
       busCmdOf .updateScreen (latch 0x13 0 0 0) s = some (updateScreenCmd Config.params (latch 0x13 0 0 0)) ∧
       (∃ x, InXact (updateScreenCmd Config.params (latch 0x13 0 0 0)) p x) ∧ p.job = .item 0 ∧
       ∃ y, (updateScreenCmd Config.params (latch 0x13 0 0 0)).items[0 + 1]? = some y) := by
  refine ⟨⟨rfl, rfl, ⟨_, rfl, rfl⟩, rfl, rfl, rfl, ⟨_, rfl⟩⟩, rfl, rfl, ⟨_, rfl⟩, rfl, ?_⟩
  cases h : Config.params.colCmds <;>
    simp [updateScreenCmd, pageItems, h, List.range_succ, Config.pages]

theorem test_witness_FirstPollEmitsThePhaseAction :
    let p := { opening (.item 0) .data with byte := 1 }
    let s := answered 2 0x78 2 0 (some p) [.nothing]
    s.eng = .exec (latch 2 0x78 2 0) (some p) ∧
    busCmdOf .transmit (latch 2 0x78 2 0) s = some (transmitCmd (latch 2 0x78 2 0)) ∧
    InXact (transmitCmd (latch 2 0x78 2 0)) p (.write 0x78 (.stage 0 2)) ∧ p.since = none :=
  ⟨rfl, rfl, rfl, rfl⟩

/-- Its second clause: TRANSMIT has no probe, IS_DEVICE_READY one of the operand's trials, DISP_INIT one trial. -/
theorem test_witness_FirstEngineStep :
    (running 4 0x78 1 10 none).eng = .exec (latch 4 0x78 1 10) none ∧
    busCmdOf .isDeviceReady (latch 4 0x78 1 10) (running 4 0x78 1 10 none) =
      some (isDeviceReadyCmd (latch 4 0x78 1 10)) ∧
    ¬ illegalOperands .isDeviceReady (latch 4 0x78 1 10) ∧ (running 4 0x78 1 10 none).status.configured = true ∧
    (∀ pr, (isDeviceReadyCmd (latch 4 0x78 1 10)).probe = some pr → 0 < pr.trials) ∧
    ¬ illegalOperands .dispInit (latch 0x10 0 0 0) ∧
    (∀ pr, (dispInitCmd Config.params (latch 0x10 0 0 0)).probe = some pr → 0 < pr.trials) ∧
    ¬ illegalOperands .transmit (latch 2 0x78 2 0) ∧ (transmitCmd (latch 2 0x78 2 0)).probe = none := by
  refine ⟨rfl, rfl, id, rfl, ?_, id, ?_, by simp only [illegalOperands]; decide, rfl⟩
  · rintro pr h
    cases h
    decide
  · rintro pr h
    cases h
    decide

theorem test_witness_TimeoutInfoHasItsFields :
    (256 : Nat) ≤ 256 ∧ timeoutInfo .data 256 300 = 0xFF010004#32 ∧ timeoutInfo .stop 256 0 = 0x00000005#32 := by decide

theorem test_witness_TransfersCountTheirBytes :
    (let s := answered 2 0x78 2 0 (some (waiting (.item 0) .stop 0)) [.stopDone]
     s.eng = .exec (latch 2 0x78 2 0) (some (waiting (.item 0) .stop 0)) ∧ s.nextAnswer = .stopDone) ∧
    (let s := answered 2 0x78 2 0 (some (waiting (.item 0) .data 0)) [.byteDone]
     s.eng = .exec (latch 2 0x78 2 0) (some (waiting (.item 0) .data 0)) ∧ s.nextAnswer = .byteDone) ∧
    (let s := answered 3 0x78 1 255 (some (waiting (.item 0) .data 0)) [.byteIn 0xC3]
     s.eng = .exec (latch 3 0x78 1 255) (some (waiting (.item 0) .data 0)) ∧ s.nextAnswer = .byteIn 0xC3 ∧
       (latch 3 0x78 1 255).off2 + (waiting (.item 0) .data 0).byte < 256) := by decide

theorem test_witness_PresenceProbeCountsItsTrials :
    ((running 4 0x78 0 10 none).eng = .exec (latch 4 0x78 0 10) none ∧
      (running 4 0x78 0 10 none).status.configured = true ∧ ((latch 4 0x78 0 10).arg1.extractLsb' 0 16).toNat = 0) ∧
    (let p := waiting (.probe 2 false) .stop 0
     let s := answered 4 0x78 2 10 (some p) [.stopDone]
     s.eng = .exec (latch 4 0x78 2 10) (some p) ∧ p.job = .probe 2 false ∧ p.phase = .stop ∧
       s.nextAnswer = .stopDone ∧ ¬ 2 < ((latch 4 0x78 2 10).arg1.extractLsb' 0 16).toNat ∧
       1 < ((latch 4 0x78 2 10).arg1.extractLsb' 0 16).toNat) ∧
    (let p := opening (.probe 2 false) .start
     let s := answered 4 0x78 2 10 (some p) [.startDone]
     s.eng = .exec (latch 4 0x78 2 10) (some p) ∧ p.job = .probe 2 false ∧ p.phase = .start ∧ p.since = none ∧
       s.nextAnswer = .startDone) ∧
    (let p := waiting (.probe 2 false) .addr 0
     let s := answered 4 0x78 2 10 (some p) [.nack]
     s.eng = .exec (latch 4 0x78 2 10) (some p) ∧ p.job = .probe 2 false ∧ p.phase = .addr ∧
       s.nextAnswer = .nack) := by decide

/-- Whatever INIT_SEQ is, the position after its last transaction meets the first clause. -/
theorem test_witness_DisplayInitReportsReadiness :
    (∃ k, let p := waiting (.item k) .stop 0
      let s := answered 0x10 0 0 0 (some p) [.stopDone]
      s.eng = .exec (latch 0x10 0 0 0) (some p) ∧ p.phase = .stop ∧ s.nextAnswer = .stopDone ∧ p.job = .item k ∧
        (dispInitCmd Config.params (latch 0x10 0 0 0)).items.length ≤ k + 1) ∧
    (let p := waiting (.probe 1 false) .stop 0
     let s := answered 0x10 0 0 0 (some p) [.stopDone]
     s.eng = .exec (latch 0x10 0 0 0) (some p) ∧ p.phase = .stop ∧ s.nextAnswer = .stopDone ∧
       p.job = .probe 1 false ∧ 1 ≤ 1) :=
  ⟨⟨_, rfl, rfl, rfl, rfl, Nat.le_succ _⟩, by decide⟩

theorem test_witness_InvertCommandsSetInverted :
    let p := waiting (.item 0) .stop 0
    let s := answered 0x17 0 0 0 (some p) [.stopDone]
    s.eng = .exec (latch 0x17 0 0 0) (some p) ∧ p.job = .item 0 ∧ p.phase = .stop ∧ s.nextAnswer = .stopDone := by
  decide

theorem test_witness_UpdateAndScrollsComplete :
    ∃ k, let p := waiting (.item k) .stop 0
      let s := answered 0x13 0 0 0 (some p) [.stopDone]
      s.eng = .exec (latch 0x13 0 0 0) (some p) ∧
      busCmdOf .updateScreen (latch 0x13 0 0 0) s = some (updateScreenCmd Config.params (latch 0x13 0 0 0)) ∧
      p.job = .item k ∧ (updateScreenCmd Config.params (latch 0x13 0 0 0)).items.length ≤ k + 1 ∧ p.phase = .stop ∧
      s.nextAnswer = .stopDone :=
  ⟨_, rfl, rfl, rfl, Nat.le_succ _, rfl, rfl⟩

/-- The clauses of the same statement about an empty OPEN sequence: for `exec` whenever the parameter is empty, which an
opaque parameter leaves open, and under parameters in which it is. -/
theorem test_witness_EmptySequenceCompletes :
    (Config.params.stopScrollSeq = [] → (stopScrollCmd Config.params (latch 0x1D 0 0 0)).items = []) ∧
    (running 0x1D 0 0 0 none).eng = .exec (latch 0x1D 0 0 0) none ∧
    busCmdOf .stopScroll (latch 0x1D 0 0 0) State.reset = some (stopScrollCmd Config.params (latch 0x1D 0 0 0)) ∧
    (stopScrollCmd Config.params (latch 0x1D 0 0 0)).probe = none ∧
    (running 0x1D 0 0 0 none).status.configured = true ∧
    (stopScrollCmd { params93 with stopScrollSeq := [] } (latch 0x1D 0 0 0)).probe = none ∧
    (stopScrollCmd { params93 with stopScrollSeq := [] } (latch 0x1D 0 0 0)).items = [] :=
  ⟨fun h => by simp [stopScrollCmd, displayCmd, h], rfl, rfl, rfl, rfl, rfl, rfl⟩

theorem test_witness_DisplaySequencesAreTheirTransactions :
    (∃ c, busCmdOf .updateScreen (latch 0x13 0 0 0) State.reset = some c) ∧
      (∃ c, busCmdOf .dispInit (latch 0x10 0 0 0) State.reset = some c) ∧ (7 : Nat) < 8 ∧ (127 : Nat) < 128 ∧
      Instr.scrollRight = .scrollRight :=
  ⟨⟨_, rfl⟩, ⟨_, rfl⟩, by decide, by decide, rfl⟩

theorem test_witness_FillAndClearSetEveryByte :
    (running 0x111 0 0 0 none).eng = .exec (latch 0x111 0 0 0) none ∧ (1023 : Nat) < 1024 := by decide

theorem test_witness_GotoxyClampsTheCursor :
    (running 0x14 0x003F007F 0 0 none).eng = .exec (latch 0x14 0x003F007F 0 0) none := by decide

theorem test_witness_PutcPaintsTheGlyphOrFails :
    (running 0x115 0x41 0 0 none).eng = .exec (latch 0x115 0x41 0 0) none ∧
      (Config.params.font 0).map Font.fw = some 11 ∧ (Config.params.font 0).map Font.fh = some 18 ∧
      onScreen (127, 63) = true := ⟨rfl, rfl, rfl, by decide⟩

theorem test_witness_PutsDrawsItsString :
    (running 0x116 255 0 0 none).eng = .exec (latch 0x116 255 0 0) none ∧
      256 - ((latch 0x116 255 0 0).arg0.extractLsb' 0 8).toNat = 1 ∧ ∃ f, Config.params.font 0 = some f :=
  ⟨rfl, by decide, ⟨_, rfl⟩⟩

theorem test_witness_PlotWritesOnePixel :
    ((0 : Int) ≤ 127 ∧ (127 : Int) < 128 ∧ (0 : Int) ≤ 63 ∧ (63 : Int) < 64) ∧
      ¬ ((0 : Int) ≤ 128 ∧ (128 : Int) < 128 ∧ (0 : Int) ≤ 0 ∧ (0 : Int) < 64) ∧ onScreen (127, 63) = true ∧
      onScreen (127, 64) = false ∧ onScreen (-1, 0) = false := by decide

theorem test_witness_DrawPixelPaintsItsPoint :
    (running 0x120 0x003F007F 0 0 none).eng = .exec (latch 0x120 0x003F007F 0 0) none ∧
      point (latch 0x120 0x003F007F 0 0).arg0 = (127, 63) := by decide

theorem test_witness_DrawCommandsPaintTheirPointSet :
    ∃ d, (running 0x121 0 0x00020004 0 none).eng = .exec (latch 0x121 0 0x00020004 0) none ∧
      drawPoints (.drawLine .white) (latch 0x121 0 0x00020004 0) (running 0x121 0 0x00020004 0 none) = some d ∧
      d.1 = .white ∧ ((4, 2) : Point) ∈ d.2 ∧ onScreen (4, 2) = true ∧ ∀ q ∈ d.2, pixelByte q ≠ 5 :=
  ⟨_, rfl, rfl, rfl, by decide, by decide, by decide⟩

theorem test_witness_DrawingTwiceIsDrawingOnce :
    ∃ d t u, (running 0x121 0 0x00020004 0 none).eng = .exec (latch 0x121 0 0x00020004 0) none ∧
      drawPoints (.drawLine .white) (latch 0x121 0 0x00020004 0) (running 0x121 0 0x00020004 0 none) = some d ∧
      exec (.drawLine .white) (running 0x121 0 0x00020004 0 none) = .next t ∧
      exec (.drawLine .white) { t with eng := (running 0x121 0 0x00020004 0 none).eng } = .next u :=
  ⟨_, _, _, rfl, rfl, rfl, rfl⟩

/-- A point and the next, the last two of the line (a steep one); and V-G5's line, whose points the rule names. -/
theorem test_witness_LineEndsAtItsEndPoint :
    ((0 : Int) < 1 ∧ (linePoints (0, 0) (1, 3))[2]? = some (1, 2) ∧ (linePoints (0, 0) (1, 3))[2 + 1]? = some (1, 3)) ∧
    ((0 : Int) = 0 ∧ (0 : Int) ≤ 7 ∧ (linePoints (0, 0) (0, 7))[0 + 1]? = some (0, 1)) ∧
    linePoints (0, 0) (4, 2) = [(0, 0), (1, 0), (2, 1), (3, 1), (4, 2)] := by decide

theorem test_witness_LinesStayInTheBoxOfTheirEndpoints :
    ((1, 2) : Point) ∈ linePoints (0, 0) (1, 3) ∧ ((-2, 0) : Point) ∈ linePoints (2, 0) (-2, 0) ∧
      ((0, 7) : Point) ∈ linePoints (0, 0) (0, 7) := by decide

theorem test_witness_CircleIsEightWaySymmetric : ((64 + 3, 32 + 1) : Point) ∈ circlePoints (64, 32) 3 := by decide

theorem test_witness_CircleLoopEndsByItsCondition :
    (0 : Nat) < 3 ∧ (circlePasses 3).getLast? = some (2, 2) ∧ (circlePasses 3)[0]? = some (1, 3) ∧
      0 + 1 < (circlePasses 3).length ∧ ((0, 3) :: circlePasses 3)[0]? = some (0, 3) ∧
      ((0, 3) :: circlePasses 3)[1]? = some (1, 3) ∧ (circlePasses 3)[1]? = some (2, 2) := by decide

theorem test_witness_FilledCircleContainsTheCircle :
    ((66, 31) : Point) ∈ circlePoints (64, 32) 2 ∧ ((64 + 2, 32 + (-1)) : Point) ∈ filledCirclePoints (64, 32) 2 ∧
      ((64, 32) : Point) ∈ filledCirclePoints (64, 32) 0 := by decide

theorem test_witness_OnlyBusCommandsTouchTheBus :
    usesBus .clear = false ∧ (∃ t, exec .clear (running 0x12 0 0 0 none) = .next t) ∧
      ∃ u, exec .clear { running 0x12 0 0 0 none with
        status := { (running 0x12 0 0 0 none).status with configured := false } } = .next u :=
  ⟨rfl, ⟨_, rfl⟩, ⟨_, rfl⟩⟩

theorem test_witness_OnlyUpdateScreenSendsTheFramebuffer :
    usesBus .transmit = true ∧ Instr.transmit ≠ .updateScreen ∧
      (∃ t, exec .transmit (running 2 0x78 1 0 none) = .next t) ∧ Instr.clear ≠ .updateScreen ∧
      (∃ t, exec .clear (running 0x12 0 0 0 none) = .next t) ∧
      ∃ u, exec .clear { running 0x12 0 0 0 none with fb := [(0, 1)] } = .next u :=
  ⟨rfl, by decide, ⟨_, rfl⟩, by decide, ⟨_, rfl⟩, ⟨_, rfl⟩⟩

theorem test_witness_BusCommandsLeaveTheFramebuffer :
    usesBus .receive = true ∧ Instr.transmit ≠ .receive ∧
    (∃ t, exec .transmit (running 2 0x78 1 0 none) = .next t) ∧
    (let p := opening (.item 0) .data
     let s := answered 3 0x3C 1 255 (some p) [.byteIn 0xC3]
     s.eng = .exec (latch 3 0x3C 1 255) (some p) ∧ (∃ t, exec .receive s = .next t) ∧
       ∀ q v, some p = some q → q.phase = .data → s.nextAnswer = .byteIn v →
         (254 : Nat) ≠ (latch 3 0x3C 1 255).off2 + q.byte) := by
  refine ⟨rfl, by decide, ⟨_, rfl⟩, rfl, ⟨_, rfl⟩, ?_⟩
  rintro q v h - -
  cases h
  decide

theorem test_witness_WriteCommandRunsItsTransactions :
    let l := latch 2 0x78 0 0
    let c := transmitCmd l
    let s := { answered 2 0x78 0 0 none (c.items.flatMap promptAnswers) with
      schedule := List.replicate (c.items.map xactPolls).sum .engine }
    s.eng = .exec l none ∧ decode l.cmd = .ok .transmit ∧ busCmdOf .transmit l s = some c ∧ c.probe = none ∧
      c.items ≠ [] ∧ (∀ x ∈ c.items, ∃ a8 pl, x = .write a8 pl) ∧ s.status.configured = true ∧
      ¬ illegalOperands .transmit l ∧ s.schedule = List.replicate (c.items.map xactPolls).sum .engine ++ [] ∧
      s.answers = c.items.flatMap promptAnswers ++ [] := by
  refine ⟨rfl, by decide, rfl, rfl, by decide, ?_, rfl, by simp only [illegalOperands]; decide, by simp, by simp [answered]⟩
  intro x hx
  simp only [transmitCmd, List.mem_singleton] at hx
  exact ⟨_, _, hx⟩

theorem test_witness_ReceiveStoresWhatItGets :
    let l := latch 3 0x3C 1 255
    let s := { answered 3 0x3C 1 255 none (readAnswers [0xC3]) with schedule := List.replicate 5 .engine }
    s.eng = .exec l none ∧ decode l.cmd = .ok .receive ∧ [(0xC3 : Byte)].length = l.count ∧
      ¬ illegalOperands .receive l ∧ s.status.configured = true ∧
      s.schedule = List.replicate ([(0xC3 : Byte)].length + 4) .engine ++ [] ∧ s.answers = readAnswers [0xC3] ++ [] := by
  simp only [illegalOperands]
  decide

theorem test_witness_RegisterReadsHandBackTheirValue :
    (0x000#12, (running 7 0 0 0 none).cmd) ∈ [(0x000#12, (running 7 0 0 0 none).cmd)] ∧
      (hostAccess (running 7 0 0 0 none) (.read 0x000 .b32)).reply = some 7 := by decide

theorem test_witness_RegisterWritesDoTheirOneThing :
    0x028#12 ∈ [0x014#12, 0x018#12, 0x01C#12, 0x020#12, 0x024#12, 0x028#12] := by decide

theorem test_witness_WindowAccessesAreLittleEndian :
    State.reset.status.busy = false ∧ 255 + Width.bytes .b8 ≤ spaceSize .stage ∧ 254 + Width.bytes .b16 ≤ spaceSize .stage ∧
      254 % Width.bytes .b16 = 0 ∧ 1020 + Width.bytes .b32 ≤ spaceSize .fb ∧ 1020 % Width.bytes .b32 = 0 := by decide

theorem test_witness_BadAccessesAreOnlyRecorded :
    ((0x038#12).toNat < 0x03C ∧ Width.b16 ≠ .b32) ∧ ((0x03B#12).toNat < 0x03C ∧ (0x03B#12).toNat % 4 ≠ 0) ∧
    (0x03C ≤ (0x03C#12).toNat ∧ (0x3FF#12).toNat < 0x400) ∧ 0x900 ≤ (0x900#12).toNat ∧
    (0x400 ≤ (0x401#12).toNat ∧ (0x8FE#12).toNat < 0x900 ∧ (0x401#12).toNat % 2 ≠ 0 ∧ (0x8FE#12).toNat % 4 ≠ 0) := by
  decide

theorem test_witness_WindowsAreClosedWhileBusy :
    (running 0x13 0 0 0 none).status.busy = true ∧ 0x400 ≤ (0x400#12).toNat ∧ (0x8FF#12).toNat < 0x900 := by decide

theorem test_witness_TickCountsUnlessAPollIsDue :
    ({ State.reset with schedule := [.tick] } : State).schedule = .tick :: [] ∧
    owesPoll { State.reset with schedule := [.tick] } = false ∧
    (let s := { answered 2 0x78 2 0 (some (waiting (.item 0) .addr 0)) [] with schedule := [.tick] }
     s.eng = .exec (latch 2 0x78 2 0) (some (waiting (.item 0) .addr 0)) ∧
       (waiting (.item 0) .addr 0).since = some 0 ∧ s.polled = false) ∧
    (¬ ∃ l p tp, State.reset.eng = .exec l (some p) ∧ p.since = some tp ∧ State.reset.polled = false) ∧
    State.reset.schedule = [] ∧ State.reset.eng = .idle :=
  ⟨rfl, rfl, ⟨rfl, rfl, rfl⟩, by simp [State.reset], rfl, rfl⟩

theorem test_witness_ResetLeavesTheResetValues :
    ({ running 0x13 0 0 0 none with schedule := [.reset] } : State).schedule = .reset :: [] := by decide

theorem test_witness_EveryStepKeepsTheInvariant : ∃ t, StateInv haltedState ∧ step haltedState = .next t :=
  ⟨_, test_witness_TheHaltIsForGood.1, rfl⟩

end Sys2Proof.Tests
end

section
/-! SUPPORT. What one engine step of a command can do, said once for all 27 commands (40 R93): a bus command makes one
poll and goes on or ends, BUS_INIT programs the bus or halts, and every other command paints FB, moves CURSOR and
completes. -/

namespace Sys2Proof.Machine

/-! ### A bus command (40 R95..R102, R108) -/

/-- What the poll of a bus command changes before the command goes on or ends: ENV's answer is taken, BH grows, and a
received byte goes to STAGE (40 R96, R101). -/
structure Polled (s u : State) : Prop where
  eq : u = { s with stage := u.stage, bh := u.bh, answers := u.answers, draws := u.draws, polled := u.polled }
  ram : ramOk s → ramOk u

theorem Polled.refl (s : State) : Polled s s := ⟨rfl, id⟩

theorem Polled.trans {s u v : State} (h : Polled s u) (k : Polled u v) : Polled s v :=
  ⟨by rw [k.eq, h.eq], k.ram ∘ h.ram⟩

theorem Polled.status {s u : State} (h : Polled s u) : u.status = s.status := by rw [h.eq]
theorem Polled.result {s u : State} (h : Polled s u) : u.result = s.result := by rw [h.eq]
theorem Polled.errInfo {s u : State} (h : Polled s u) : u.errInfo = s.errInfo := by rw [h.eq]
theorem Polled.cursor {s u : State} (h : Polled s u) : u.cursor = s.cursor := by rw [h.eq]
theorem Polled.faults {s u : State} (h : Polled s u) : u.faults = s.faults := by rw [h.eq]

theorem polled_emit (s : State) (a : Action) : Polled s (s.emit a) := ⟨rfl, id⟩

theorem polled_consume (s : State) (a : Answer) : Polled s (s.consume a) := ⟨rfl, id⟩

theorem polled_takeAnswer (s : State) : Polled s s.takeAnswer := by
  constructor
  · unfold State.takeAnswer
    split <;> rfl
  · simp [ramOk]

/-- A received byte changes the cells of STAGE only (40 R101). -/
theorem storeReceived_eq (x : Xact) (i : Nat) (a : Answer) (s : State) :
    storeReceived x i a s = { s with stage := (storeReceived x i a s).stage } := by
  unfold storeReceived
  split
  · unfold State.writeByte
    split <;> rfl
  · rfl

theorem polled_storeReceived (x : Xact) (i : Nat) (a : Answer) (s : State) : Polled s (storeReceived x i a s) := by
  constructor
  · rw [storeReceived_eq]
  · unfold storeReceived
    split
    · exact State.writeByte_ramOk _ _ _
    · exact id

/-- How the engine step of the bus command `c` leaves the state `u` the poll made: it goes on at a position, or it ends
with success, with no device ready, with a timeout, or with a failed check (40 R94, R102, R108, 60 R174). -/
inductive BusOutcome (c : BusCmd) (l : Latch) (u : State) : State → Prop
  | running (q : Pos) : BusOutcome c l u (u.at l q)
  | succeeded (r : Word) : BusOutcome c l u (busSucceed c r u)
  | notReady (r : Word) : BusOutcome c l u (busNotReady c r u)
  | timedOut (q : Pos) : BusOutcome c l u (busFail c q u)
  | rejected (code : ErrCode) (h : code = .illegalCommand ∨ code = .notConfigured) :
    BusOutcome c l u (u.complete code 0 0)

theorem nextItem_outcome (c : BusCmd) (l : Latch) (p : Pos) (i : Nat) (s : State) :
    BusOutcome c l s (nextItem c l p i s) := by
  unfold nextItem
  split
  · exact .succeeded _
  · exact .running _

theorem endTransaction_outcome (c : BusCmd) (l : Latch) (p : Pos) (s : State) :
    BusOutcome c l s (endTransaction c l p s) := by
  unfold endTransaction
  split
  · exact nextItem_outcome ..
  · split
    · exact nextItem_outcome ..
    · split
      · exact .running _
      · exact .notReady _

theorem endPhase_outcome (c : BusCmd) (l : Latch) (x : Xact) (p : Pos) (a : Answer) (s : State) :
    ∃ u, Polled s u ∧ BusOutcome c l u (endPhase c l x p a s) := by
  unfold endPhase
  split
  · exact ⟨s, .refl s, .running _⟩
  · exact ⟨s, .refl s, .running _⟩
  · exact ⟨s, .refl s, .running _⟩
  · exact ⟨_, polled_storeReceived .., .running _⟩
  · exact ⟨s, .refl s, endTransaction_outcome ..⟩

theorem pollPhase_outcome (c : BusCmd) (l : Latch) (x : Xact) (p : Pos) (s : State) :
    ∃ u, Polled s u ∧ BusOutcome c l u (pollPhase c l x p s) := by
  have ht := polled_takeAnswer s
  obtain ⟨-, h⟩ | ⟨-, -, h⟩ | ⟨-, -, h⟩ := pollPhase_cases c l x p s <;> rw [h]
  · obtain ⟨u, hu, ho⟩ := endPhase_outcome c l x p s.nextAnswer (s.takeAnswer.consume s.nextAnswer)
    exact ⟨u, (ht.trans (polled_consume ..)).trans hu, ho⟩
  · exact ⟨_, ht, .timedOut p⟩
  · exact ⟨_, ht, .running p⟩

/-- The position a poll is made at: a first poll settles t_x, t_p and the trial number before it (40 R96, R98). -/
def pollPos (P : Params) (c : BusCmd) (s : State) (p : Pos) : Pos :=
  match p.since with
  | none => openPhase P.timeoutOrigin c s.tick p
  | some _ => p

/-- The state a poll is made in: a first poll emits its phase's action before it (40 R93). -/
def pollState (s : State) (x : Xact) (p : Pos) : State :=
  match p.since with
  | none => (phaseAction s x p.phase p.byte).elim s s.emit
  | some _ => s

/-- First or later, a poll is one iteration of the bounded wait (40 R96). -/
theorem busPoll_eq (P : Params) {c : BusCmd} (l : Latch) {p : Pos} {x : Xact} (s : State) (h : c.current p = some x) :
    busPoll P c l p s = pollPhase c l x (pollPos P c s p) (pollState s x p) := by
  unfold busPoll pollPos pollState
  rw [h]
  cases p.since with
  | none =>
    simp only [openAndPoll]
    cases phaseAction s x p.phase p.byte <;> rfl
  | some tp => rfl

theorem polled_pollState (s : State) (x : Xact) (p : Pos) : Polled s (pollState s x p) := by
  unfold pollState
  split
  · cases phaseAction s x p.phase p.byte with
    | none => exact .refl s
    | some a => exact polled_emit s a
  · exact .refl s

theorem busPoll_outcome (P : Params) (c : BusCmd) (l : Latch) (p : Pos) (s : State) :
    ∃ u, Polled s u ∧ BusOutcome c l u (busPoll P c l p s) := by
  cases h : c.current p with
  | none =>
    simp only [busPoll, h]
    exact ⟨s, .refl s, .succeeded _⟩
  | some x =>
    rw [busPoll_eq P l s h]
    obtain ⟨u, hu, ho⟩ := pollPhase_outcome c l x (pollPos P c s p) (pollState s x p)
    exact ⟨u, (polled_pollState s x p).trans hu, ho⟩

/-- One engine step of a bus command (40 R93, 60 R174). -/
theorem busStep_outcome (P : Params) (legal : Bool) (c : BusCmd) (l : Latch) (pos : Option Pos) (s : State) :
    ∃ u, Polled s u ∧ BusOutcome c l u (busStep P legal c l pos s) := by
  unfold busStep
  split
  · split
    · split
      · unfold busBegin
        split
        · split
          · exact ⟨s, .refl s, .notReady 0⟩
          · exact busPoll_outcome ..
        · exact busPoll_outcome ..
      · exact ⟨s, .refl s, .rejected _ (.inr rfl)⟩
    · exact ⟨s, .refl s, .rejected _ (.inl rfl)⟩
  · exact busPoll_outcome ..

/-! ### A command without bus use (41 R124..R130, 42 R150) -/

/-- What the drawing of a command changes before it completes: FB and CURSOR, within their ranges (10 R29, R34). -/
structure Painted (s u : State) : Prop where
  eq : u = { s with fb := u.fb, cursor := u.cursor }
  ram : ramOk s → ramOk u
  range : cursorOk s → cursorOk u

theorem Painted.refl (s : State) : Painted s s := ⟨rfl, id, id⟩

theorem Painted.trans {s u v : State} (h : Painted s u) (k : Painted u v) : Painted s v :=
  ⟨by rw [k.eq, h.eq], k.ram ∘ h.ram, k.range ∘ h.range⟩

theorem Painted.status {s u : State} (h : Painted s u) : u.status = s.status := by rw [h.eq]
theorem Painted.faults {s u : State} (h : Painted s u) : u.faults = s.faults := by rw [h.eq]

theorem painted_fb {m : Memory} (s : State) (h : Memory.wf Config.fbBytes m = true) : Painted s { s with fb := m } :=
  ⟨rfl, fun hr => ⟨h, hr.2⟩, id⟩

theorem painted_plotAll (c : Color) (pts : List Point) (s : State) : Painted s (plotAll c pts s) := by
  have h := plotAll_eq c pts s
  refine ⟨?_, plotAll_ramOk c pts, ?_⟩
  · rw [h]
  · rw [h]
    exact id

/-- The `Plot` calls leave CURSOR alone (42 R150). -/
theorem plotAll_cursor (c : Color) (pts : List Point) (s : State) : (plotAll c pts s).cursor = s.cursor := by
  rw [plotAll_eq]

/-- A clamped coordinate is at most the bound (41 R127). -/
theorem clampTo_le {top : Nat} (h : top < 2 ^ 16) (v : Int) : (clampTo top v).toNat ≤ top := by
  simp only [clampTo, BitVec.toNat_ofNat]
  omega

theorem painted_gotoXY (s : State) (x y : Int) :
    Painted s { s with cursor := { cx := clampTo (Config.width - 1) x, cy := clampTo (Config.height - 1) y } } :=
  ⟨rfl, id, fun _ => ⟨(clampTo_le (by decide) x).trans (by decide), clampTo_le (by decide) y⟩⟩

/-- A glyph's corner leaves room for the glyph's width (41 R128, 00 R9). -/
theorem glyphCorner_fits (f : Font) (cur : Cursor) : (glyphCorner f cur).1 + f.fw ≤ Config.width := by
  have hw := f.fwLess.isLt
  unfold glyphCorner
  split <;> simp only [Font.fw, Config.width] at * <;> omega

/-- PutGlyph leaves the cursor in its range (41 R128, 10 R29). -/
theorem painted_putGlyph {f : Font} {c : Color} {ch : Byte} {s u : State} (h : putGlyph f c ch s = some u) :
    Painted s u := by
  obtain ⟨hfit, rfl⟩ := putGlyph_some h
  have hp := painted_plotAll c (glyphPoints f ch (glyphCorner f s.cursor)) s
  refine ⟨?_, hp.ram, fun _ => ?_⟩
  · rw [hp.eq]
  · have hw := glyphCorner_fits f s.cursor
    simp only [Config.width, Config.height, Font.fh] at hw hfit
    simp only [cursorOk, BitVec.toNat_ofNat]
    omega

/-- How a command without bus use ends: it painted, then completed, with no timeout (40 R94). -/
def PaintsAndEnds (s t : State) : Prop :=
  ∃ u code r, Painted s u ∧ code ≠ ErrCode.busTimeout ∧ t = u.complete code r 0

theorem PaintsAndEnds.of_painted {s u t : State} (h : Painted s u) (k : PaintsAndEnds u t) : PaintsAndEnds s t := by
  obtain ⟨v, code, r, hv, hc, rfl⟩ := k
  exact ⟨v, code, r, h.trans hv, hc, rfl⟩

theorem paintsAndEnds_complete (s : State) {code : ErrCode} (r : Word) (h : code ≠ .busTimeout) :
    PaintsAndEnds s (s.complete code r 0) :=
  ⟨s, code, r, .refl s, h, rfl⟩

theorem paintsAndEnds_ok {s u : State} (h : Painted s u) : PaintsAndEnds s (u.complete .ok 0 0) :=
  .of_painted h (paintsAndEnds_complete u 0 (by decide))

theorem paintsAndEnds_putcStep (font : Option Font) (c : Color) (l : Latch) (s : State) :
    PaintsAndEnds s (putcStep font c l s) := by
  unfold putcStep
  split
  · exact paintsAndEnds_complete s 0 (by decide)
  · split
    · exact paintsAndEnds_complete s _ (by decide)
    · rename_i hu
      exact paintsAndEnds_ok (painted_putGlyph hu)

theorem paintsAndEnds_putsLoop (f : Font) (c : Color) (fuel k : Nat) (s : State) :
    PaintsAndEnds s (putsLoop f c fuel k s) := by
  induction fuel generalizing k s with
  | zero => exact paintsAndEnds_ok (.refl s)
  | succ fuel ih =>
    unfold putsLoop
    dsimp only
    split
    · exact paintsAndEnds_ok (.refl s)
    · split
      · exact paintsAndEnds_complete s _ (by decide)
      · rename_i hu
        exact .of_painted (painted_putGlyph hu) (ih _ _)

theorem paintsAndEnds_putsStep (font : Option Font) (c : Color) (l : Latch) (s : State) :
    PaintsAndEnds s (putsStep font c l s) := by
  unfold putsStep
  split
  · exact paintsAndEnds_complete s 0 (by decide)
  · exact paintsAndEnds_putsLoop ..

/-! ### Any command (40 R93) -/

/-- The commands that may write CURSOR (10 R29). -/
def movesCursor : Instr → Bool
  | .gotoXY | .putc _ _ | .puts _ _ => true
  | _ => false

/-- What `exec` does from EXEC, by the kind of the command. -/
inductive ExecKind (i : Instr) (l : Latch) (p : Option Pos) (s t : State) : Prop
  | bus (c : BusCmd) (legal : Bool) (hc : busCmdOf i l s = some c) (ht : t = busStep Config.params legal c l p s)
  | init (duty : Bool) (hi : i = .busInit duty) (ht : t = busInit Config.params duty l s)
  | draws (hb : usesBus i = false) (hi : ∀ duty, i ≠ .busInit duty) (hc : movesCursor i = false → t.cursor = s.cursor)
    (ht : PaintsAndEnds s t)

/-- Every command is of one of the three kinds (30 R75, 40 R109). -/
theorem exec_cases {i : Instr} {s t : State} (h : exec i s = .next t) :
    ∃ l p, s.eng = .exec l p ∧ ExecKind i l p s t := by
  cases i <;> obtain ⟨l, p, he, rfl⟩ := inExec_next_iff.mp h <;> refine ⟨l, p, he, ?_⟩
  case busInit duty => exact .init duty rfl rfl
  case nop => exact .draws rfl (by simp) (fun _ => rfl) (paintsAndEnds_ok (.refl s))
  case fill | clear => exact .draws rfl (by simp) (fun _ => rfl) (paintsAndEnds_ok (painted_fb s (fillCells_wf _)))
  case gotoXY => exact .draws rfl (by simp) nofun (paintsAndEnds_ok (painted_gotoXY s _ _))
  case putc => exact .draws rfl (by simp) nofun (paintsAndEnds_putcStep ..)
  case puts => exact .draws rfl (by simp) nofun (paintsAndEnds_putsStep ..)
  case drawPixel | drawLine | drawRect | drawFilledRect | drawTriangle | drawCircle | drawFilledCircle | drawBitmap =>
    exact .draws rfl (by simp) (fun _ => plotAll_cursor ..) (paintsAndEnds_ok (painted_plotAll _ _ s))
  all_goals exact .bus _ _ rfl rfl

end Sys2Proof.Machine
end

section
/-! ## The machine invariant: it holds at reset (10 R42) and every agent's step keeps it. Each agent's step is one
lemma; the engine's follows the kinds of `exec_cases`. -/

namespace Sys2Proof.Machine

/-! ### What the invariant reads -/

/-- The invariant reads the RAMs, STATUS, the engine, the two report words, CURSOR and FAULTS only. -/
theorem StateInv.congr {s t : State} (h : StateInv s) (hfb : t.fb = s.fb) (hstage : t.stage = s.stage)
    (hstatus : t.status = s.status) (heng : t.eng = s.eng) (hresult : t.result = s.result)
    (hinfo : t.errInfo = s.errInfo) (hcursor : t.cursor = s.cursor) (hfaults : t.faults = s.faults) : StateInv t := by
  obtain ⟨ram, busy, report, cursor, halt, faults⟩ := h
  constructor
  · simpa [ramOk, hfb, hstage] using ram
  · simpa [busyOk, hstatus, heng] using busy
  · simpa [reportOk, hstatus, hresult, hinfo] using report
  · simpa [cursorOk, hcursor] using cursor
  · simpa [haltOk, hstatus, heng, hfaults] using halt
  · simpa [faultsOk, hfaults] using faults

/-- In EXEC the CORE is not halted (70 R200). -/
theorem StateInv.not_halted {s : State} {l : Latch} {p : Option Pos} (h : StateInv s) (he : s.eng = .exec l p) :
    s.status.halted = false := by
  rw [Bool.eq_false_iff]
  intro hh
  obtain ⟨hi, -⟩ := h.halt hh
  simp [he] at hi

/-- In EXEC the CORE is busy (10 R22). -/
theorem StateInv.busy_of_exec {s : State} {l : Latch} {p : Option Pos} (h : StateInv s) (he : s.eng = .exec l p) :
    s.status.busy = true := by
  rw [h.busy, he]
  rfl

/-- A command that ended without a halt leaves nothing to show but the RAMs, CURSOR and FAULTS. -/
theorem stateInv_of_ended {t : State} (ram : ramOk t) (cursor : cursorOk t) (faults : faultsOk t) (heng : t.eng = .idle)
    (hbusy : t.status.busy = false) (hhalt : t.status.halted = false) : StateInv t where
  ram := ram
  cursor := cursor
  faults := faults
  busy := by simp [busyOk, heng, hbusy, Engine.running]
  report := by simp [reportOk, hbusy]
  halt := by simp [haltOk, hhalt]

/-! ### The engine (40 R93) -/

@[simp] theorem successStatus_halted (r : Report) (st : Status) : (successStatus r st).halted = st.halted := by
  cases r <;> rfl

@[simp] theorem failureStatus_halted (r : Report) (st : Status) : (failureStatus r st).halted = st.halted := by
  cases r <;> rfl

/-- The invariant's parts that no poll can touch (40 R96). -/
theorem StateInv.kept_by_poll {s u : State} {l : Latch} {p : Option Pos} (h : StateInv s) (he : s.eng = .exec l p)
    (k : Polled s u) : ramOk u ∧ cursorOk u ∧ faultsOk u ∧ u.status.halted = false :=
  ⟨k.ram h.ram, by simpa [cursorOk, k.cursor] using h.cursor, by simpa [faultsOk, k.faults] using h.faults,
    by rw [k.status, h.not_halted he]⟩

/-- However a bus command's step leaves it, running or ended, the invariant holds. -/
theorem StateInv.busOutcome {s u t : State} {c : BusCmd} {l : Latch} {p : Option Pos} (h : StateInv s)
    (he : s.eng = .exec l p) (hu : Polled s u) (ho : BusOutcome c l u t) : StateInv t := by
  obtain ⟨ram, cursor, faults, halted⟩ := h.kept_by_poll he hu
  cases ho with
  | running q =>
    have hb : u.status.busy = true := hu.status ▸ h.busy_of_exec he
    have hrep := h.report (h.busy_of_exec he)
    rw [← hu.status, ← hu.result, ← hu.errInfo] at hrep
    exact ⟨ram, hb, fun _ => hrep, cursor, by simp [haltOk, halted], faults⟩
  | succeeded r => exact stateInv_of_ended ram cursor faults rfl rfl (by simpa [busSucceed] using halted)
  | notReady r => exact stateInv_of_ended ram cursor faults rfl rfl (by simpa [busNotReady] using halted)
  | timedOut q => exact stateInv_of_ended ram cursor faults rfl rfl (by simpa [busFail] using halted)
  | rejected code hcode => exact stateInv_of_ended ram cursor faults rfl rfl halted

/-- BUS_INIT keeps the invariant: it programs the bus, or it halts with the fault recorded (40 R104, R105). -/
theorem StateInv.busInit {s : State} {l : Latch} {p : Option Pos} (h : StateInv s) (he : s.eng = .exec l p)
    (P : Params) (duty : Bool) : StateInv (busInit P duty l s) := by
  unfold Machine.busInit
  split
  · exact stateInv_of_ended h.ram h.cursor h.faults rfl rfl (h.not_halted he)
  · have hrec : .halted ∈ (busInitHalt s).faults :=
      (mem_record { s with status := { s.status with configured := false, halted := true } } .halted .halted).mpr
        (.inr rfl)
    exact ⟨h.ram, rfl, by simp [reportOk, busInitHalt], h.cursor, fun _ => ⟨rfl, rfl, rfl, hrec⟩,
      record_nodup _ h.faults⟩

/-- A command without bus use keeps the invariant. -/
theorem StateInv.paintsAndEnds {s t : State} {l : Latch} {p : Option Pos} (h : StateInv s) (he : s.eng = .exec l p)
    (k : PaintsAndEnds s t) : StateInv t := by
  obtain ⟨u, code, r, hu, -, rfl⟩ := k
  refine stateInv_of_ended (hu.ram h.ram) (hu.range h.cursor) ?_ rfl rfl ?_
  · simpa [faultsOk, hu.faults] using h.faults
  · simpa [hu.status] using h.not_halted he

/-- Every command's step keeps the invariant. -/
theorem StateInv.exec {i : Instr} {s t : State} (h : StateInv s) (hx : exec i s = .next t) : StateInv t := by
  obtain ⟨l, p, he, hk⟩ := exec_cases hx
  cases hk with
  | bus c legal hc ht =>
    obtain ⟨u, hu, ho⟩ := busStep_outcome Config.params legal c l p s
    exact ht ▸ h.busOutcome he hu ho
  | init duty hi ht => exact ht ▸ h.busInit he ..
  | draws hb hi hc ht => exact h.paintsAndEnds he ht

/-- The engine's step keeps the invariant, an illegal word's included (30 R77). -/
theorem StateInv.engineStep {s t : State} (h : StateInv s) (hx : engineStep s = .next t) : StateInv t := by
  obtain ⟨-, hs⟩ | ⟨l, p, i, -, -, hs⟩ | ⟨l, p, e, he, -, hs⟩ := engineStep_cases s <;> rw [hs] at hx
  · cases hx
    exact h
  · exact h.exec hx
  · cases hx
    exact h.paintsAndEnds he (paintsAndEnds_complete s 0 (by decide))

/-! ### The host (20 R51..R57) -/

/-- What a host access of the block does (20 R52..R56): it is recorded, or it is a read, a register write or a window
write. -/
inductive HostEffect (s : State) (op : HostOp) (t : State) : Prop
  | recorded (rs : List FaultRecord) (ht : t = (s.recordAll rs).handBack none)
  | read (v : Option Word) (ht : t = s.handBack v)
  | regWrite (off : BitVec 12) (v : Word) (r : Reg) (hop : op = .write off .b32 v) (hr : targetAt off = .reg r)
    (ht : t = (regWrite s v r).handBack none)
  | windowWrite (sp : Space) (a : Nat) (bs : List Byte) (ht : t = (s.writeBytes sp a bs).handBack none)

/-- An admitted register access is 32 bits wide (20 R52). -/
theorem width_of_reg {s : State} {off : BitVec 12} {w : Width} {d : Dir} {r : Reg} (hr : targetAt off = .reg r)
    (h : violations s off w d = []) : w = .b32 := by
  simpa [violations, hr] using h

theorem hostAccess_cases (s : State) (op : HostOp) : HostEffect s op (hostAccess s op) := by
  cases op with
  | read off w =>
    obtain ⟨-, h⟩ | ⟨-, h⟩ := hostRead_cases s off w <;> rw [hostAccess, h]
    · exact .read _ (hostReadOk_eq s off w)
    · exact .recorded _ rfl
  | write off w v =>
    obtain ⟨hv, h⟩ | ⟨-, h⟩ := hostWrite_cases s off w v <;> rw [hostAccess, h]
    · cases ht : targetAt off with
      | reg r =>
        obtain rfl := width_of_reg ht hv
        exact .regWrite off v r rfl ht (by simp [hostWriteOk, ht])
      | window sp i => exact .windowWrite sp i (bytesOfWord w.bytes v) (by simp [hostWriteOk, ht])
      | bad => exact .read none (by simp [hostWriteOk, ht])
    · exact .recorded _ rfl

theorem StateInv.handBack {s : State} (h : StateInv s) (v : Option Word) : StateInv (s.handBack v) :=
  h.congr rfl rfl rfl rfl rfl rfl rfl rfl

/-- Records keep the invariant: FAULTS stays a set, and the record of a halt stays in it (60 R171). -/
theorem StateInv.recordAll {s : State} (h : StateInv s) (rs : List FaultRecord) : StateInv (s.recordAll rs) := by
  have hn := recordAll_nodup rs h.faults
  have hm := fun q => (mem_recordAll s rs q).mpr
  rw [recordAll_eq]
  refine ⟨h.ram, h.busy, h.report, h.cursor, fun hh => ?_, hn⟩
  obtain ⟨hidle, herr, hconf, hrec⟩ := h.halt hh
  exact ⟨hidle, herr, hconf, hm _ (.inl hrec)⟩

/-- A window write keeps the invariant (20 R53, R54). -/
theorem StateInv.writeBytes {s : State} (h : StateInv s) (sp : Space) (a : Nat) (bs : List Byte) :
    StateInv (s.writeBytes sp a bs) := by
  have hr := State.writeBytes_ramOk sp a bs h.ram
  rw [State.writeBytes_eq] at hr ⊢
  cases sp <;> exact ⟨hr, h.busy, h.report, h.cursor, h.halt, h.faults⟩

/-- A CMD write keeps the invariant in its three cases (40 R92). -/
theorem StateInv.writeCmd {s : State} (h : StateInv s) (v : Word) : StateInv (s.writeCmd v) := by
  obtain ⟨-, hw⟩ | ⟨-, -, hw⟩ | ⟨hh, -, hw⟩ := writeCmd_cases s v <;> rw [hw]
  · exact h
  · exact ⟨h.ram, h.busy, h.report, h.cursor, h.halt, h.faults⟩
  · exact ⟨h.ram, rfl, fun _ => ⟨rfl, rfl, rfl⟩, h.cursor, by simp [haltOk, hh], h.faults⟩

/-- A STATUS write keeps the invariant: it can clear OVERRUN only (10 R25). -/
theorem StateInv.writeStatus {s : State} (h : StateInv s) (v : Word) : StateInv (s.writeStatus v) := by
  unfold State.writeStatus
  split
  · exact ⟨h.ram, h.busy, h.report, h.cursor, h.halt, h.faults⟩
  · exact h

/-- A register write keeps the invariant (10 R21..R33, R43). -/
theorem StateInv.regWrite {s : State} (h : StateInv s) (v : Word) (r : Reg) : StateInv (regWrite s v r) := by
  cases r
  case cmd => exact h.writeCmd v
  case status => exact h.writeStatus v
  all_goals exact h.congr rfl rfl rfl rfl rfl rfl rfl rfl

theorem StateInv.hostAccess {s : State} (h : StateInv s) (op : HostOp) : StateInv (hostAccess s op) := by
  cases hostAccess_cases s op with
  | recorded rs ht => exact ht ▸ (h.recordAll rs).handBack none
  | read v ht => exact ht ▸ h.handBack v
  | regWrite off v r hop hr ht => exact ht ▸ (h.regWrite v r).handBack none
  | windowWrite sp a bs ht => exact ht ▸ (h.writeBytes sp a bs).handBack none

theorem StateInv.hostStep {s : State} (h : StateInv s) (base : Nat) (acc : HostAccess) :
    StateInv (hostStep base acc s) := by
  obtain ⟨op, -, hs⟩ | ⟨-, hs⟩ := hostStep_cases base acc s <;> rw [hs]
  · exact h.hostAccess op
  · exact h

/-! ### Reset, the tick and the whole step (00 R12) -/

theorem stateInv_reset : StateInv State.reset :=
  stateInv_of_ended reset_ramOk ⟨Nat.zero_le _, Nat.zero_le _⟩ List.nodup_nil rfl rfl rfl

theorem StateInv.popEvent {s : State} (h : StateInv s) : StateInv (popEvent s) := by
  rw [popEvent_eq]
  exact h.congr rfl rfl rfl rfl rfl rfl rfl rfl

/-- Settles O60, agent by agent: which agent steps is `step_cases`, and each one's step keeps the invariant. -/
theorem everyStepKeepsTheInvariant : Obligations.EveryStepKeepsTheInvariant := by
  intro s t h hstep
  have hp := h.popEvent
  obtain ⟨acc, -, hs⟩ | ⟨-, hs⟩ | ⟨-, -, hs⟩ | ⟨-, -, hs⟩ | ⟨-, hs⟩ := step_cases s <;> rw [hs] at hstep
  · cases hstep
    exact hp.hostStep _ acc
  · exact hp.engineStep hstep
  · refine StateInv.engineStep ?_ hstep
    exact hp.congr rfl rfl rfl rfl rfl rfl rfl rfl
  · cases hstep
    exact hp.congr rfl rfl rfl rfl rfl rfl rfl rfl
  · cases hstep
    exact stateInv_reset.congr rfl rfl rfl rfl rfl rfl rfl rfl

/-! ### The canonical form of a RAM (20 R50) -/

/-- Addresses that rise strictly from `lo` up are a strictly sorted list with no address below `lo`. -/
theorem memRising_iff (lo : Nat) (m : Memory) :
    memRising lo m = true ↔ m.Pairwise (fun c d => c.1 < d.1) ∧ ∀ c ∈ m, lo ≤ c.1 := by
  induction m generalizing lo with
  | nil => simp [memRising]
  | cons c m ih =>
    obtain ⟨a, b⟩ := c
    simp only [memRising, Bool.and_eq_true, decide_eq_true_eq, ih, List.pairwise_cons, List.forall_mem_cons]
    constructor
    · rintro ⟨hlo, hm, hlt⟩
      exact ⟨⟨fun d hd => hlt d hd, hm⟩, hlo, fun d hd => by have := hlt d hd; omega⟩
    · rintro ⟨⟨hlt, hm⟩, hlo, -⟩
      exact ⟨hlo, hm, fun d hd => hlt d hd⟩

/-- Settles O59: the reset state, and the canonical form by induction on the cells. -/
theorem invariantHoldsAtReset : Obligations.InvariantHoldsAtReset := by
  refine ⟨stateInv_reset, fun n m => ?_⟩
  simp [Memory.wf, memRising_iff]

end Sys2Proof.Machine
end

section
/-! ## Which fields a command, a host access and a tick write (10 R20..R33, R41) -/

namespace Sys2Proof.Machine

/-! ### The frame of a command -/

theorem BusFrame.keepsHostRegs {s t : State} (h : BusFrame s t) : KeepsHostRegs s t :=
  ⟨h.cmd, h.arg0, h.arg1, h.arg2, h.tick, h.toFlag, h.toBusy, h.toStop, h.dispAddr⟩

/-- BUS_INIT changes STATUS, the report, the speed registers and FAULTS only (40 R104, R105). -/
theorem busInit_eq (P : Params) (duty : Bool) (l : Latch) (s : State) :
    busInit P duty l s = { s with
      status := (busInit P duty l s).status, result := 0, eng := .idle, busCcr := (busInit P duty l s).busCcr,
      busTrise := (busInit P duty l s).busTrise, faults := (busInit P duty l s).faults } := by
  unfold busInit
  split <;> rfl

/-- A command without bus use changes FB, CURSOR, the report and the mode only. -/
theorem PaintsAndEnds.eq {s t : State} (h : PaintsAndEnds s t) :
    t = { s with
      fb := t.fb, cursor := t.cursor, result := t.result, eng := .idle,
      status := { s.status with err := t.status.err, busy := false } } := by
  obtain ⟨u, code, r, hu, hc, rfl⟩ := h
  rw [hu.eq]
  simp [State.complete, hc]

/-- Settles O11, by the three kinds of command. -/
theorem engineWritesOnlyItsOwnRegisters : Obligations.EngineWritesOnlyItsOwnRegisters := by
  intro i s t hx
  have hcur : (∀ c k, i ≠ .putc c k) → (∀ c k, i ≠ .puts c k) → i ≠ .gotoXY → movesCursor i = false := by
    cases i <;> simp [movesCursor]
  obtain ⟨l, p, -, hk⟩ := exec_cases hx
  cases hk with
  | bus c legal hc ht =>
    have hf : BusFrame s t := ht ▸ busFrame_busStep ..
    exact ⟨hf.keepsHostRegs, hf.schedule, hf.reply, hf.ramDraw, fun _ _ _ => hf.cursor,
      fun _ => ⟨⟨hf.busCcr, hf.busTrise⟩, hf.faults⟩⟩
  | init duty hi ht =>
    rw [ht, busInit_eq]
    exact ⟨by constructor <;> rfl, rfl, rfl, rfl, fun _ _ _ => rfl, fun hne => absurd hi (hne duty)⟩
  | draws hb hi hc ht =>
    have hkeep := fun h1 h2 h3 => hc (hcur h1 h2 h3)
    rw [ht.eq] at hkeep ⊢
    exact ⟨by constructor <;> rfl, rfl, rfl, rfl, hkeep, fun _ => ⟨⟨rfl, rfl⟩, rfl⟩⟩

/-! ### STATUS under a command -/

/-- What the bus command an instruction runs as reports (10 R26, R41). -/
def reportOf (i : Instr) (s : State) : Report :=
  match i with
  | .transmit | .receive => .bytes
  | .isDeviceReady => .trials
  | .dispInit => .dispInit
  | .toggleInvert => .invert (!s.status.inverted)
  | .invertDisplay q => .invert q
  | _ => .plain

theorem busCmdOf_report {i : Instr} {l : Latch} {s : State} {c : BusCmd} (h : busCmdOf i l s = some c) :
    c.report = reportOf i s := by
  cases i <;> cases h <;> rfl

theorem reportOf_eq_dispInit {i : Instr} {s : State} (h : reportOf i s = .dispInit) : i = .dispInit := by
  cases i <;> simp [reportOf] at h ⊢

theorem reportOf_eq_invert {i : Instr} {s : State} {v : Bool} (h : reportOf i s = .invert v) :
    i = .toggleInvert ∨ ∃ q, i = .invertDisplay q := by
  cases i <;> simp [reportOf] at h ⊢

/-- BUS_INIT is no bus command (40 R109). -/
theorem ne_busInit_of_busCmdOf {i : Instr} {l : Latch} {s : State} {c : BusCmd} (h : busCmdOf i l s = some c)
    (q : Bool) : i ≠ .busInit q := by
  rintro rfl
  cases h

/-- What the step of a command does to STATUS and the mode (10 R41, 40 R94, R102, R104, R105, R108). -/
inductive StatusEffect (i : Instr) (s t : State) : Prop
  | running (hi : ∀ q, i ≠ .busInit q) (heng : t.eng ≠ .idle) (hst : t.status = s.status)
  | reported (code : ErrCode) (hi : ∀ q, i ≠ .busInit q) (heng : t.eng = .idle)
    (hst : t.status = { s.status with err := code, busy := false })
  | succeeded (hi : ∀ q, i ≠ .busInit q) (heng : t.eng = .idle)
    (hst : t.status = { successStatus (reportOf i s) s.status with err := .ok, busy := false })
  | notReady (hi : ∀ q, i ≠ .busInit q) (heng : t.eng = .idle)
    (hst : t.status = { failureStatus (reportOf i s) s.status with err := .deviceNotReady, busy := false })
  | timedOut (hi : ∀ q, i ≠ .busInit q) (heng : t.eng = .idle)
    (hst : t.status =
      { failureStatus (reportOf i s) s.status with busDirty := true, err := .busTimeout, busy := false })
  | programmed (q : Bool) (hi : i = .busInit q) (heng : t.eng = .idle)
    (hst : t.status = { s.status with configured := true, busDirty := false, err := .ok, busy := false })
  | halted (q : Bool) (hi : i = .busInit q) (heng : t.eng = .idle)
    (hst : t.status =
      { s.status with configured := false, halted := true, err := .configUnprogrammable, busy := false })

theorem BusOutcome.statusEffect {i : Instr} {s u t : State} {c : BusCmd} {l : Latch} (hc : busCmdOf i l s = some c)
    (hu : Polled s u) (ho : BusOutcome c l u t) : StatusEffect i s t := by
  have hi := ne_busInit_of_busCmdOf hc
  have hr := busCmdOf_report hc
  cases ho with
  | running q => exact .running hi nofun hu.status
  | succeeded r => exact .succeeded hi rfl (by simp [busSucceed, hu.status, hr])
  | notReady r => exact .notReady hi rfl (by simp [busNotReady, hu.status, hr])
  | timedOut q => exact .timedOut hi rfl (by simp [busFail, hu.status, hr])
  | rejected code h => exact .reported code hi rfl (by simp [hu.status])

theorem exec_statusEffect {i : Instr} {s t : State} (hx : exec i s = .next t) : StatusEffect i s t := by
  obtain ⟨l, p, -, hk⟩ := exec_cases hx
  cases hk with
  | bus c legal hc ht =>
    obtain ⟨u, hu, ho⟩ := busStep_outcome Config.params legal c l p s
    exact ht ▸ ho.statusEffect hc hu
  | init duty hi ht =>
    subst ht
    unfold busInit
    split
    · exact .programmed duty hi rfl rfl
    · exact .halted duty hi rfl rfl
  | draws hb hi hc ht =>
    have he := ht.eq
    exact .reported t.status.err hi (by rw [he]) (by rw [he])

/-- A failure keeps every bit but DISP_READY, and DISP_READY too unless DISP_INIT failed, which clears it (41 R123). -/
theorem failureStatus_cases (i : Instr) (s : State) :
    failureStatus (reportOf i s) s.status = s.status ∨
      (i = .dispInit ∧ failureStatus (reportOf i s) s.status = { s.status with dispReady := false }) := by
  cases h : reportOf i s with
  | dispInit => exact .inr ⟨reportOf_eq_dispInit h, rfl⟩
  | _ => exact .inl rfl

/-- A success keeps every bit, but DISP_INIT's sets DISP_READY and the invert commands' writes INVERTED (41 R123, R131,
R132). -/
theorem successStatus_cases (i : Instr) (s : State) :
    successStatus (reportOf i s) s.status = s.status ∨
      (i = .dispInit ∧ successStatus (reportOf i s) s.status = { s.status with dispReady := true }) ∨
      ((i = .toggleInvert ∨ ∃ q, i = .invertDisplay q) ∧
        ∃ v, successStatus (reportOf i s) s.status = { s.status with inverted := v }) := by
  cases h : reportOf i s with
  | dispInit => exact .inr (.inl ⟨reportOf_eq_dispInit h, rfl⟩)
  | invert v => exact .inr (.inr ⟨reportOf_eq_invert h, v, rfl⟩)
  | _ => exact .inl rfl

/-! ### STATUS under a host access -/

/-- A register's offset is below the windows (20 R51). -/
theorem regAt_of_targetAt {off : BitVec 12} {r : Reg} (h : targetAt off = .reg r) : regAt off.toNat = some r := by
  unfold targetAt at h
  dsimp only at h
  split at h
  · cases h
  · split at h
    · cases h
    · split at h
      · rename_i hr
        cases h
        exact hr
      · cases h

/-- Where a register stands (20 R51). -/
def Reg.offset : Reg → BitVec 12
  | .cmd => 0x000
  | .status => 0x004
  | .arg0 => 0x008
  | .arg1 => 0x00C
  | .arg2 => 0x010
  | .result => 0x014
  | .errInfo => 0x018
  | .tick => 0x01C
  | .cursor => 0x020
  | .busCcr => 0x024
  | .busTrise => 0x028
  | .toFlag => 0x02C
  | .toBusy => 0x030
  | .toStop => 0x034
  | .dispAddr => 0x038

theorem targetAt_offset (r : Reg) : targetAt r.offset = .reg r := by
  cases r <;> rfl

/-- A register stands at its own offset only (20 R51). -/
theorem off_of_targetAt {off : BitVec 12} {r : Reg} (h : targetAt off = .reg r) : off = r.offset := by
  have hr := regAt_of_targetAt h
  unfold regAt at hr
  split at hr <;> cases hr <;> exact BitVec.eq_of_toNat_eq (by assumption)

theorem writeBytes_status (s : State) (sp : Space) (a : Nat) (bs : List Byte) :
    (s.writeBytes sp a bs).status = s.status := by
  rw [State.writeBytes_eq, State.setCells_status]

theorem recordAll_status (s : State) (rs : List FaultRecord) : (s.recordAll rs).status = s.status := by
  rw [recordAll_eq]

/-- What a host access does to STATUS: nothing, or it is an accepted command, a command request while busy, or a clear
of OVERRUN (10 R25, 40 R92). -/
theorem hostAccess_status (s : State) (op : HostOp) :
    (hostAccess s op).status = s.status ∨
    (s.status.halted = false ∧ s.status.busy = false ∧ (∃ v, op = .write 0x000 .b32 v) ∧
      (hostAccess s op).status = { s.status with err := .ok, busy := true }) ∨
    (s.status.halted = false ∧ s.status.busy = true ∧ (∃ v, op = .write 0x000 .b32 v) ∧
      (hostAccess s op).status = { s.status with overrun := true }) ∨
    ((∃ v : Word, op = .write 0x004 .b32 v ∧ v.getLsbD 12 = true) ∧
      (hostAccess s op).status = { s.status with overrun := false }) := by
  cases hostAccess_cases s op with
  | recorded rs ht => exact .inl (by rw [ht, State.handBack_status, recordAll_status])
  | read v ht => exact .inl (by rw [ht, State.handBack_status])
  | windowWrite sp a bs ht => exact .inl (by rw [ht, State.handBack_status, writeBytes_status])
  | regWrite off v r hop hr ht =>
    obtain rfl := off_of_targetAt hr
    rw [ht, State.handBack_status]
    cases r
    case cmd =>
      obtain ⟨-, hw⟩ | ⟨hh, hb, hw⟩ | ⟨hh, hb, hw⟩ := writeCmd_cases s v <;> rw [regWrite, hw]
      · exact .inl rfl
      · exact .inr (.inr (.inl ⟨hh, hb, ⟨v, hop⟩, rfl⟩))
      · exact .inr (.inl ⟨hh, hb, ⟨v, hop⟩, rfl⟩)
    case status =>
      simp only [regWrite, State.writeStatus]
      split
      · rename_i hv
        exact .inr (.inr (.inr ⟨⟨v, hop, hv⟩, rfl⟩))
      · exact .inl rfl
    all_goals exact .inl rfl

/-- Settles O12: the effects of a command's step, then those of a host access, and the tick. -/
theorem statusBitsHaveTheirWriters : Obligations.StatusBitsHaveTheirWriters := by
  refine ⟨fun i s t hx => ?_, fun s op => ?_, fun s => rfl⟩
  · cases exec_statusEffect hx with
    | running hi heng hst => simp +contextual [hst, heng]
    | reported code hi heng hst => simp +contextual [hst, heng]
    | succeeded hi heng hst =>
      obtain h | ⟨rfl, h⟩ | ⟨rfl | ⟨q, rfl⟩, v, h⟩ := successStatus_cases i s <;> rw [h] at hst <;>
        simp +contextual [hst, heng]
    | notReady hi heng hst =>
      obtain h | ⟨rfl, h⟩ := failureStatus_cases i s <;> rw [h] at hst <;> simp +contextual [hst, heng]
    | timedOut hi heng hst =>
      obtain h | ⟨rfl, h⟩ := failureStatus_cases i s <;> rw [h] at hst <;> simp +contextual [hst, heng]
    | programmed q hi heng hst => simp +contextual [hst, heng, hi]
    | halted q hi heng hst => simp +contextual [hst, heng, hi]
  · obtain h | ⟨hh, hb, ⟨v, rfl⟩, h⟩ | ⟨hh, hb, ⟨v, rfl⟩, h⟩ | ⟨⟨v, rfl, hv⟩, h⟩ :=
      hostAccess_status s op <;> rw [h]
    · simp +contextual
    · simp [hh, hb]
    · simp [hh, hb]
    · simp [hv]

end Sys2Proof.Machine
end

section
/-! ## Register accesses, the report words, the tick and the reset event (10 R24..R33, R42, 20 R51) -/

namespace Sys2Proof.Machine

/-! ### A 32-bit access of a register (20 R51, R52) -/

theorem violations_offset (s : State) (r : Reg) (d : Dir) : violations s r.offset .b32 d = [] := by
  simp [violations, targetAt_offset]

theorem hostAccess_read_reg (s : State) (r : Reg) :
    hostAccess s (.read r.offset .b32) = s.handBack (some (regValue s r)) := by
  simp [hostAccess, hostRead, violations_offset, hostReadOk_eq, targetAt_offset]

theorem hostAccess_write_reg (s : State) (r : Reg) (v : Word) :
    hostAccess s (.write r.offset .b32 v) = (regWrite s v r).handBack none := by
  simp [hostAccess, hostWrite, violations_offset, hostWriteOk, targetAt_offset]

/-- A STATUS write as one update of OVERRUN (10 R25). -/
theorem writeStatus_eq (s : State) (v : Word) :
    s.writeStatus v = { s with status := { s.status with overrun := s.status.overrun && !v.getLsbD 12 } } := by
  unfold State.writeStatus
  split
  · rename_i h
    simp only [h, Bool.not_true, Bool.and_false]
  · rename_i h
    simp only [h, Bool.not_false, Bool.and_true]

/-- Settles O52, register by register: a write of a read-only register is no update at all (10 R43). -/
theorem registerWritesDoTheirOneThing : Obligations.RegisterWritesDoTheirOneThing := by
  intro s v
  have hw := fun r => hostAccess_write_reg s r v
  have hstatus : hostAccess s (.write Reg.status.offset .b32 v) = (s.writeStatus v).handBack none := hw .status
  rw [writeStatus_eq] at hstatus
  refine ⟨hw .arg0, hw .arg1, hw .arg2, hw .toFlag, hw .toBusy, hw .toStop, hw .dispAddr, hstatus, ?_⟩
  simp only [List.forall_mem_cons, List.not_mem_nil, false_implies, implies_true, and_true]
  exact ⟨hw .result, hw .errInfo, hw .tick, hw .cursor, hw .busCcr, hw .busTrise⟩

/-! ### The bits of STATUS (10 R24) -/

theorem getLsbD_flagBit (b : Bool) (i j : Nat) :
    (flagBit b i).getLsbD j = (decide (i < 32) && decide (i = j) && b) := by
  cases b with
  | false => simp [flagBit]
  | true =>
    have h : flagBit true i = BitVec.twoPow 32 i := rfl
    rw [h, BitVec.getLsbD_twoPow, Bool.and_true]

/-- ERR's number stands in bits 7:4 (10 R24, 60 R170). -/
theorem getLsbD_errField (e : ErrCode) (j : Nat) :
    ((errNumber e).setWidth 32 <<< 4).getLsbD j = (!decide (j < 4) && (errNumber e).getLsbD (j - 4)) := by
  rw [BitVec.getLsbD_shiftLeft, BitVec.getLsbD_setWidth]
  rcases Nat.lt_or_ge j 8 with h | h
  · have h1 : j < 32 := by omega
    have h2 : j - 4 < 32 := by omega
    simp [h1, h2]
  · have hz : (errNumber e).getLsbD (j - 4) = false := BitVec.getLsbD_of_ge _ _ (by omega)
    simp [hz]

/-- STATUS bit by bit (10 R24). -/
theorem getLsbD_statusWord (st : Status) (j : Nat) : (statusWord st).getLsbD j =
    (decide (0 = j) && st.busy || (!decide (j < 4) && (errNumber st.err).getLsbD (j - 4)) ||
      decide (8 = j) && st.configured || decide (9 = j) && st.dispReady || decide (10 = j) && st.inverted ||
      decide (11 = j) && st.busDirty || decide (12 = j) && st.overrun || decide (13 = j) && st.halted) := by
  simp only [statusWord, BitVec.getLsbD_or, getLsbD_flagBit, getLsbD_errField]
  simp

/-- A field of a word, bit by bit. -/
theorem extractLsb'_eq_of_getLsbD {w n : Nat} (a : Nat) {v : BitVec w} {u : BitVec n}
    (h : ∀ i < n, v.getLsbD (a + i) = u.getLsbD i) : v.extractLsb' a n = u := by
  refine BitVec.eq_of_getLsbD_eq fun i hi => ?_
  rw [BitVec.getLsbD_extractLsb', decide_eq_true hi, Bool.true_and, h i hi]

/-- Settles O51: the flags are single bits of STATUS, and ERR and the reserved fields are read off bit by bit. -/
theorem statusReadsItsFields : Obligations.StatusReadsItsFields := by
  intro s
  have hb := getLsbD_statusWord s.status
  have hlow : (statusWord s.status).extractLsb' 1 3 = 0#3 :=
    extractLsb'_eq_of_getLsbD 1 fun i hi => by rw [hb]; interval_cases i <;> simp
  have herr : (statusWord s.status).extractLsb' 4 4 = errNumber s.status.err :=
    extractLsb'_eq_of_getLsbD 4 fun i hi => by rw [hb]; interval_cases i <;> simp
  have hhigh : (statusWord s.status).extractLsb' 14 18 = 0#18 := by
    refine extractLsb'_eq_of_getLsbD 14 fun i hi => ?_
    have h0 : (errNumber s.status.err).getLsbD (14 + i - 4) = false := BitVec.getLsbD_of_ge _ _ (by omega)
    rw [hb, h0]
    simp
    omega
  refine ⟨statusWord s.status, hostAccess_read_reg s .status, ?_, hlow, ?_, ?_, ?_, ?_, ?_, ?_, ?_, hhigh⟩
  · exact (hb 0).trans (by simp)
  · rw [herr]
    cases s.status.err <;> rfl
  · exact (hb 8).trans (by simp)
  · exact (hb 9).trans (by simp)
  · exact (hb 10).trans (by simp)
  · exact (hb 11).trans (by simp)
  · exact (hb 12).trans (by simp)
  · exact (hb 13).trans (by simp)

/-! ### The fields of ERR_INFO (10 R28) -/

/-- The number that three disjoint fields make. -/
theorem or_shiftLeft_fields {c b x : Nat} (hc : c < 2 ^ 8) (hb : b < 2 ^ 16) :
    c ||| b <<< 8 ||| x <<< 24 = x * 2 ^ 24 + b * 2 ^ 8 + c := by
  have h : b <<< 8 + c < 2 ^ 24 := by rw [Nat.shiftLeft_eq]; omega
  rw [Nat.or_comm c, ← Nat.shiftLeft_add_eq_or_of_lt hc, Nat.or_comm, ← Nat.shiftLeft_add_eq_or_of_lt h,
    Nat.shiftLeft_eq, Nat.shiftLeft_eq]
  omega

theorem phaseCode_lt (ph : Phase) : (phaseCode ph).toNat < 2 ^ 4 := by
  cases ph <;> decide

/-- ERR_INFO of a timeout as a number. -/
theorem timeoutInfo_toNat (ph : Phase) {byte : Nat} (xact : Nat) (h : byte ≤ 256) :
    (timeoutInfo ph byte xact).toNat =
      min xact 255 * 2 ^ 24 + (if ph = .data then byte else 0) * 2 ^ 8 + (phaseCode ph).toNat := by
  have hc := phaseCode_lt ph
  have hb : (if ph = .data then byte else 0) < 2 ^ 9 := by split <;> omega
  rw [← or_shiftLeft_fields (by omega) (by omega)]
  unfold timeoutInfo
  generalize (if ph = .data then byte else 0) = b at *
  have hbyte : ((BitVec.ofNat 9 b).setWidth 32 <<< 8).toNat = b <<< 8 := by
    simp only [BitVec.toNat_shiftLeft, BitVec.toNat_setWidth, BitVec.toNat_ofNat, Nat.shiftLeft_eq]
    omega
  have hxact : (BitVec.ofNat 32 (min xact 255) <<< 24).toNat = min xact 255 <<< 24 := by
    simp only [BitVec.toNat_shiftLeft, BitVec.toNat_ofNat, Nat.shiftLeft_eq]
    omega
  rw [BitVec.toNat_or, BitVec.toNat_or, hbyte, hxact]

/-- Settles O22: each field is a quotient and remainder of `timeoutInfo_toNat`. -/
theorem timeoutInfoHasItsFields : Obligations.TimeoutInfoHasItsFields := by
  intro ph byte xact hbyte
  have hinfo := timeoutInfo_toNat ph xact hbyte
  have hc := phaseCode_lt ph
  have hb : (if ph = .data then byte else 0) < 2 ^ 9 := by split <;> omega
  have hx : ∀ a n, ((timeoutInfo ph byte xact).extractLsb' a n).toNat =
      (timeoutInfo ph byte xact).toNat / 2 ^ a % 2 ^ n := fun a n => by
    rw [BitVec.extractLsb'_toNat, Nat.shiftRight_eq_div_pow]
  have hphase : (timeoutInfo ph byte xact).extractLsb' 0 4 = BitVec.ofNat 4 (phaseCode ph).toNat := by
    refine BitVec.eq_of_toNat_eq ?_
    rw [hx, hinfo, BitVec.toNat_ofNat]
    omega
  refine ⟨?_, BitVec.eq_of_toNat_eq ?_, ?_, BitVec.eq_of_toNat_eq ?_, ?_⟩
  · rw [hphase]
    cases ph <;> rfl
  · rw [hx, hinfo, BitVec.toNat_ofNat]
    omega
  · rw [hx, hinfo]
    omega
  · rw [hx, hinfo, BitVec.toNat_ofNat]
    omega
  · rw [hx, hinfo]
    omega

/-! ### The tick and the reset event (10 R30, R42) -/

/-- Settles O56: a tick event is an engine step exactly when a poll is owed (`owesPoll_iff`). -/
theorem tickCountsUnlessAPollIsDue : Obligations.TickCountsUnlessAPollIsDue := by
  have hdue : ∀ s : State, (∃ l p tp, s.eng = .exec l (some p) ∧ p.since = some tp ∧ s.polled = false) →
      tickEvent s = engineStep { s with schedule := .tick :: s.schedule } :=
    fun s h => if_pos ((owesPoll_iff s).mpr h)
  have hfree : ∀ s : State, (¬ ∃ l p tp, s.eng = .exec l (some p) ∧ p.since = some tp ∧ s.polled = false) →
      tickEvent s = .next { s with tick := s.tick + 1, polled := false } :=
    fun s h => if_neg fun ho => h ((owesPoll_iff s).mp ho)
  refine ⟨fun s rest hs => ?_, fun s => ⟨hdue s, hfree s⟩, fun s hs he => ?_⟩
  · have hstep : step s = tickEvent { s with schedule := rest } := by
      simp [step, nextEvent, popEvent, hs, agentStep]
    rw [hstep]
    refine ⟨fun h => ?_, hfree { s with schedule := rest }⟩
    rw [hdue { s with schedule := rest } h, ← hs]
  · have hstep : step s = tickEvent s := by
      simp [step, nextEvent, popEvent, hs, he, agentStep]
    rw [hstep]
    exact hfree s (by simp [he])

theorem statusWord_reset : statusWord Status.reset = 0 := by decide

/-- Settles O57: the event is `resetStep`, which takes every named field from `State.reset`. -/
theorem resetLeavesTheResetValues : Obligations.ResetLeavesTheResetValues := by
  intro s rest hs
  have hstep : step s = .next (resetStep { s with schedule := rest }) := by
    simp [step, nextEvent, popEvent, hs, agentStep]
  exact ⟨_, hstep, rfl, rfl, rfl, rfl, rfl, rfl, rfl, rfl, rfl, rfl, rfl, rfl, rfl, rfl, rfl, statusWord_reset, rfl,
    rfl, rfl⟩

end Sys2Proof.Machine
end

section
/-! ## What follows a phase that ENV answered (40 R95, R96, R99, R101, R108) -/

namespace Sys2Proof.Machine

/-! ### The position and the state of a poll -/

@[simp] theorem pollPos_phase (P : Params) (c : BusCmd) (s : State) (p : Pos) : (pollPos P c s p).phase = p.phase := by
  unfold pollPos; split <;> rfl
@[simp] theorem pollPos_job (P : Params) (c : BusCmd) (s : State) (p : Pos) : (pollPos P c s p).job = p.job := by
  unfold pollPos; split <;> rfl
@[simp] theorem pollPos_byte (P : Params) (c : BusCmd) (s : State) (p : Pos) : (pollPos P c s p).byte = p.byte := by
  unfold pollPos; split <;> rfl
@[simp] theorem pollPos_xact (P : Params) (c : BusCmd) (s : State) (p : Pos) : (pollPos P c s p).xact = p.xact := by
  unfold pollPos; split <;> rfl

/-- The transaction's start tick after the poll (40 R96, R98). -/
theorem pollPos_origin (P : Params) (c : BusCmd) (s : State) (p : Pos) :
    (pollPos P c s p).origin = xactStart s p := by
  obtain ⟨job, phase, since, origin, xact, byte, pending⟩ := p
  cases since with
  | some tp => rfl
  | none => cases phase <;> cases job <;> simp [pollPos, openPhase, Pos.opensTransaction, xactStart]

/-- The trial number of RESULT's form (10 R26). -/
theorem trialResult_eq (k : Nat) : trialResult k = BitVec.ofNat 16 k ++ 0#16 := by
  refine BitVec.eq_of_toNat_eq (.trans ?_ (BitVec.toNat_append (BitVec.ofNat 16 k) 0#16).symm)
  simp only [trialResult, BitVec.toNat_shiftLeft, BitVec.toNat_setWidth, BitVec.toNat_ofNat, Nat.shiftLeft_eq,
    Nat.zero_mod, Nat.or_zero]
  omega

/-- The byte count of RESULT's form (10 R26). -/
theorem bytesResult_eq (n : Nat) : bytesResult n = 0#23 ++ BitVec.ofNat 9 n := by
  refine BitVec.eq_of_toNat_eq (.trans ?_ (BitVec.toNat_append 0#23 (BitVec.ofNat 9 n)).symm)
  simp only [bytesResult, BitVec.toNat_setWidth, BitVec.toNat_ofNat, Nat.zero_shiftLeft, Nat.zero_mod, Nat.zero_or]
  omega

/-- The pending result of a trial's first poll (40 R108). -/
theorem pendingTrial_reportOf (i : Instr) (s : State) (k : Nat) (w : Word) :
    pendingTrial (reportOf i s) k w = if i = .isDeviceReady then BitVec.ofNat 16 k ++ 0#16 else w := by
  cases i <;> simp [reportOf, pendingTrial, trialResult_eq]

/-- The pending result after a byte (40 R106, R107). -/
theorem pendingBytes_reportOf (i : Instr) (s : State) (n : Nat) (w : Word) :
    pendingBytes (reportOf i s) n w = if i = .transmit ∨ i = .receive then 0#23 ++ BitVec.ofNat 9 n else w := by
  cases i <;> simp [reportOf, pendingBytes, bytesResult_eq]

theorem pollPos_pending {i : Instr} {l : Latch} {s : State} {c : BusCmd} (hb : busCmdOf i l s = some c) (P : Params)
    (p : Pos) : (pollPos P c s p).pending = pollPending i p := by
  obtain ⟨job, phase, since, origin, xact, byte, pending⟩ := p
  cases since with
  | some tp => rfl
  | none => cases phase <;> cases job <;>
      simp [pollPos, openPhase, pollPending, busCmdOf_report hb, pendingTrial_reportOf]

/-- The state in which an answered phase ends: the action of a first poll emitted, ENV's answer taken and consumed
(40 R93, R96). -/
def answeredState (s : State) (x : Xact) (p : Pos) : State :=
  (pollState s x p).takeAnswer.consume s.nextAnswer

theorem pollState_eq (s : State) (x : Xact) (p : Pos) :
    pollState s x p = { s with bh := (pollState s x p).bh } := by
  unfold pollState
  split
  · cases phaseAction s x p.phase p.byte <;> rfl
  · rfl

theorem pollState_nextAnswer (s : State) (x : Xact) (p : Pos) : (pollState s x p).nextAnswer = s.nextAnswer := by
  rw [pollState_eq]
  rfl

/-- Every field of the state an answered phase ends in but BH and the draw counter. -/
theorem answeredState_eq (s : State) (x : Xact) (p : Pos) :
    answeredState s x p = { s with
      bh := (answeredState s x p).bh, answers := s.answers.tail, draws := (answeredState s x p).draws,
      polled := true } := by
  rw [answeredState, pollState_eq]
  unfold State.takeAnswer
  cases s.answers <;> rfl

/-- An answer in `want` ends the phase, whatever has elapsed (40 R96). -/
theorem exec_answered {i : Instr} {s : State} {l : Latch} {p : Pos} {c : BusCmd} {x : Xact}
    (he : s.eng = .exec l (some p)) (hb : busCmdOf i l s = some c) (hx : InXact c p x)
    (hw : wanted x p.phase s.nextAnswer = true) :
    exec i s = .next (endPhase c l x (pollPos Config.params c s p) s.nextAnswer (answeredState s x p)) := by
  rw [exec_busPoll he hb, busPoll_eq _ l s (inXact_current hx), pollPhase]
  simp only [pollPos_phase, pollState_nextAnswer, hw, if_true]
  rfl

/-! ### The end of a phase -/

/-- Which answers end a phase (40 R95, R108). -/
theorem wanted_iff (x : Xact) (ph : Phase) (a : Answer) : wanted x ph a = true ↔
    (ph = .busyWait ∧ a = .idle) ∨ (ph = .start ∧ a = .startDone) ∨
    (ph = .addr ∧ (a = .ack ∨ (a = .nack ∧ ∃ a8, x = .probe a8))) ∨
    (ph = .data ∧ ((a = .byteDone ∧ ∃ a8 pl, x = .write a8 pl) ∨
      ((∃ v, a = .byteIn v) ∧ ∃ a8 off n, x = .read a8 off n))) ∨
    (ph = .stop ∧ a = .stopDone) := by
  cases ph <;> cases a <;> cases x <;> simp [wanted]

/-- The STOP of a transaction that is not the last leads to BUSY_WAIT of the next item (40 R108, 41 R122). -/
theorem endTransaction_next {c : BusCmd} (l : Latch) {p : Pos} {n : Nat} {y : Xact} (s : State)
    (hjob : (∃ k, p.job = .item k ∧ n = k + 1) ∨ ((∃ k, p.job = .probe k true) ∧ n = 0))
    (hy : c.items[n]? = some y) :
    endTransaction c l p s =
      s.at l { p with job := .item n, phase := .busyWait, since := none, xact := p.xact + 1, byte := 0 } := by
  obtain ⟨k, hj, rfl⟩ | ⟨⟨k, hj⟩, rfl⟩ := hjob <;> simp [endTransaction, nextItem, hj, hy]

/-- At a STOP a first poll settles t_p only (40 R96, R98). -/
theorem pollPos_stop (P : Params) (c : BusCmd) (s : State) {p : Pos} (h : p.phase = .stop) :
    pollPos P c s p = { p with since := (pollPos P c s p).since } := by
  obtain ⟨job, phase, since, origin, xact, byte, pending⟩ := p
  subst h
  cases since <;> rfl

/-- Settles O20. The phases before STOP are the branches of `endPhase`; the third clause is the STOP that does not end
the command. -/
theorem answeredPhaseLeadsToTheNext : Obligations.AnsweredPhaseLeadsToTheNext := by
  refine ⟨wanted_iff, ?_, fun s => rfl, ?_, ?_⟩
  · intro i s l p c x he hb hx hw hstop
    have horigin := pollPos_origin Config.params c s p
    have hpending := pollPos_pending hb Config.params p
    rw [exec_answered he hb hx hw, answeredState_eq]
    unfold endPhase
    cases hph : p.phase <;> simp only [pollPos_phase, pollPos_byte, hph]
    case busyWait | start =>
      exact ⟨_, _, rfl, rfl, rfl, rfl, rfl, rfl, rfl, pollPos_xact .., horigin, rfl, pollPos_job .., pollPos_byte ..,
        hpending⟩
    case addr =>
      refine ⟨_, _, rfl, rfl, rfl, rfl, rfl, rfl, rfl, pollPos_xact .., horigin, rfl, rfl, hpending, ?_⟩
      rw [pollPos_job]
      cases p.job <;> rfl
    case data =>
      have hkeep : pollPending i p = p.pending := by
        unfold pollPending
        rw [hph]
        cases p.since <;> rfl
      rw [busCmdOf_report hb, pendingBytes_reportOf, hpending, hkeep, storeReceived_eq]
      split
      · exact ⟨_, _, rfl, rfl, rfl, rfl, rfl, rfl, rfl, pollPos_xact .., horigin, pollPos_job .., rfl, rfl, rfl⟩
      · exact ⟨_, _, rfl, rfl, rfl, rfl, rfl, rfl, rfl, pollPos_xact .., horigin, pollPos_job .., rfl, rfl⟩
    case stop => exact absurd hph hstop
  · intro i s l p c x tp he hb hx hw hsince
    refine ⟨_, exec_answered he hb hx hw, ?_⟩
    rw [endPhase_bh]
    simp [answeredState, pollState, hsince]
  · intro i s l p c x y n he hb hx hph hans hjob hy
    have hw : wanted x p.phase s.nextAnswer = true := by rw [hph, hans]; rfl
    have hend : endPhase c l x (pollPos Config.params c s p) s.nextAnswer (answeredState s x p) =
        (answeredState s x p).at l
          { p with job := .item n, phase := .busyWait, since := none, xact := p.xact + 1, byte := 0 } := by
      rw [pollPos_stop _ c s hph]
      simp only [endPhase, hph]
      exact endTransaction_next l _ hjob hy
    refine ⟨_, exec_answered he hb hx hw, ?_⟩
    rw [hend, answeredState_eq]
    exact ⟨rfl, rfl, rfl, rfl, rfl, rfl, rfl, rfl⟩

end Sys2Proof.Machine
end

section
/-! ## The host port: registers read, the FB and STAGE windows, bad accesses (20 R51..R56, 60 R171, 70 R195) -/

namespace Sys2Proof.Machine

/-! ### Reads of the registers (20 R51, R56) -/

theorem cursorWord_eq (c : Cursor) : cursorWord c = c.cy ++ c.cx := by
  refine BitVec.eq_of_getLsbD_eq fun j hj => ?_
  rw [cursorWord, BitVec.getLsbD_or, BitVec.getLsbD_setWidth, BitVec.getLsbD_shiftLeft, BitVec.getLsbD_setWidth,
    BitVec.getLsbD_append]
  rcases Nat.lt_or_ge j 16 with h | h
  · simp [h, hj]
  · have hx : c.cx.getLsbD j = false := BitVec.getLsbD_of_ge _ _ h
    have hpred : j - 16 < 32 := by omega
    simp [hx, hj, hpred, Nat.not_lt.mpr h]

/-- Settles O50: the list is that of the registers other than STATUS with their values as the host reads them. -/
theorem registerReadsHandBackTheirValue : Obligations.RegisterReadsHandBackTheirValue := by
  intro s off v h
  have hdisp : 0#24 ++ s.dispAddr = s.dispAddr.setWidth 32 := (BitVec.setWidth_eq_append (by decide)).symm
  rw [← cursorWord_eq, hdisp] at h
  obtain ⟨r, -, hr⟩ : ∃ r ∈ allRegs.erase .status, (r.offset, regValue s r) = (off, v) := List.mem_map.mp h
  cases hr
  exact hostAccess_read_reg s r

/-! ### Words and their bytes, little-endian (20 R54) -/

/-- Bit `j` of an assembled word is bit `j % 8` of byte `j / 8`. -/
theorem getLsbD_wordOfBytes (bs : List Byte) (j : Nat) :
    (wordOfBytes bs).getLsbD j = (decide (j < 32) && (bs.getD (j / 8) 0).getLsbD (j % 8)) := by
  induction bs generalizing j with
  | nil => simp [wordOfBytes]
  | cons b bs ih =>
    rw [wordOfBytes, BitVec.getLsbD_or, BitVec.getLsbD_setWidth, BitVec.getLsbD_shiftLeft, ih]
    rcases Nat.lt_or_ge j 8 with hj | hj
    · simp [hj, Nat.div_eq_of_lt hj, Nat.mod_eq_of_lt hj]
    · have hdiv : j / 8 = (j - 8) / 8 + 1 := by omega
      have hmod : j % 8 = (j - 8) % 8 := by omega
      have hb : b.getLsbD j = false := BitVec.getLsbD_of_ge b j hj
      rw [hdiv, hmod, List.getD_cons_succ, hb]
      by_cases h : j < 32
      · have hpred : j - 8 < 32 := by omega
        simp [h, hpred, Nat.not_lt.mpr hj]
      · simp [h]

theorem extractLsb'_wordOfBytes {bs : List Byte} {k : Nat} (hk : k < bs.length) (h32 : k < 4) :
    (wordOfBytes bs).extractLsb' (8 * k) 8 = bs[k] := by
  refine extractLsb'_eq_of_getLsbD _ fun i hi => ?_
  have hdiv : (8 * k + i) / 8 = k := by omega
  have hmod : (8 * k + i) % 8 = i := by omega
  have hlt : 8 * k + i < 32 := by omega
  rw [getLsbD_wordOfBytes, hdiv, hmod, decide_eq_true hlt, Bool.true_and, List.getD_eq_getElem _ _ hk]

/-- An assembled word is zero above its bytes. -/
theorem getLsbD_wordOfBytes_of_ge {bs : List Byte} {j : Nat} (h : 8 * bs.length ≤ j) :
    (wordOfBytes bs).getLsbD j = false := by
  have hlen : bs.length ≤ j / 8 := by omega
  rw [getLsbD_wordOfBytes, List.getD_eq_default _ _ hlen]
  simp

@[simp] theorem length_bytesOfWord (n : Nat) (w : Word) : (bytesOfWord n w).length = n := by
  induction n generalizing w with
  | zero => rfl
  | succ n ih => simp [bytesOfWord, ih]

theorem getElem_bytesOfWord (n : Nat) (w : Word) {k : Nat} (hk : k < (bytesOfWord n w).length) :
    (bytesOfWord n w)[k] = w.extractLsb' (8 * k) 8 := by
  induction n generalizing w k with
  | zero => exact absurd hk (Nat.not_lt_zero k)
  | succ n ih =>
    cases k with
    | zero => exact BitVec.setWidth_eq_extractLsb' (x := w) (by decide)
    | succ k =>
      have htail : (bytesOfWord (n + 1) w)[k + 1] = (w >>> 8).extractLsb' (8 * k) 8 := ih (w >>> 8) _
      rw [htail]
      refine (extractLsb'_eq_of_getLsbD _ fun i hi => ?_).symm
      have hpos : 8 * (k + 1) + i = 8 + (8 * k + i) := by omega
      rw [hpos, BitVec.getLsbD_extractLsb', BitVec.getLsbD_ushiftRight, decide_eq_true hi, Bool.true_and]

/-! ### Blocks of RAM bytes (00 R11) -/

@[simp] theorem State.length_readBytes (s : State) (sp : Space) (a n : Nat) : (s.readBytes sp a n).length = n := by
  simp [State.readBytes]

theorem State.getElem_readBytes (s : State) (sp : Space) (a n : Nat) {k : Nat}
    (hk : k < (s.readBytes sp a n).length) : (s.readBytes sp a n)[k] = s.readByte sp (a + k) := by
  simp [State.readBytes]

/-- A block of writes leaves every address outside the block alone. -/
theorem State.readByte_writeBytes_outside (s : State) (sp : Space) {a b : Nat} {bs : List Byte}
    (h : b < a ∨ a + bs.length ≤ b) : (s.writeBytes sp a bs).readByte sp b = s.readByte sp b := by
  induction bs generalizing s a with
  | nil => rfl
  | cons v bs ih =>
    rw [List.length_cons] at h
    rw [State.writeBytes, ih _ (by omega), State.readByte_writeByte_ne _ _ _ (by omega)]

/-- A block of writes inside the RAM puts each byte at its address. -/
theorem State.readByte_writeBytes (s : State) (sp : Space) {a k : Nat} {bs : List Byte} (hk : k < bs.length)
    (hfit : a + bs.length ≤ spaceSize sp) : (s.writeBytes sp a bs).readByte sp (a + k) = bs[k] := by
  induction bs generalizing s a k with
  | nil => exact absurd hk (Nat.not_lt_zero k)
  | cons v bs ih =>
    rw [List.length_cons] at hk hfit
    rw [State.writeBytes]
    cases k with
    | zero =>
      rw [State.readByte_writeBytes_outside _ _ (by omega)]
      exact State.readByte_writeByte_self s sp v (by omega)
    | succ k =>
      have haddr : a + (k + 1) = a + 1 + k := by omega
      rw [haddr, ih _ (by omega) (by omega), List.getElem_cons_succ]

/-! ### The windows (20 R51, R53) -/

/-- The offset of a window's first byte (20 R51). -/
def windowBase : Space → Nat
  | .fb => 0x400
  | .stage => 0x800

theorem windowBase_add_lt {sp : Space} {i : Nat} (h : i < spaceSize sp) : windowBase sp + i < 0x900 := by
  cases sp <;> simp only [spaceSize, Config.fbBytes, Config.stageBytes, windowBase] at h ⊢ <;> omega

theorem toNat_windowOffset {sp : Space} {i : Nat} (h : i < spaceSize sp) :
    (BitVec.ofNat 12 (windowBase sp + i)).toNat = windowBase sp + i := by
  have hlt := windowBase_add_lt h
  rw [BitVec.toNat_ofNat, Nat.mod_eq_of_lt (by omega)]

theorem targetAt_windowOffset {sp : Space} {i : Nat} (h : i < spaceSize sp) :
    targetAt (BitVec.ofNat 12 (windowBase sp + i)) = .window sp i := by
  unfold targetAt
  rw [toNat_windowOffset h]
  cases sp <;> dsimp only [spaceSize, windowBase] at h ⊢ <;> simp only [Config.fbBytes, Config.stageBytes] at h
  case fb =>
    have hin : 0x400 ≤ 0x400 + i ∧ 0x400 + i < 0x800 := by omega
    simp [hin]
  case stage =>
    have hfb : ¬ 0x800 + i < 0x800 := by omega
    have hin : 0x800 + i < 0x900 := by omega
    simp [hfb, hin]

/-- A window's offset is aligned as its index is: both windows start at a multiple of 4 (20 R51, R53). -/
theorem windowBase_add_mod (sp : Space) (i : Nat) (w : Width) : (windowBase sp + i) % w.bytes = i % w.bytes := by
  cases sp <;> cases w <;> simp only [windowBase, Width.bytes] <;> omega

section
variable {s : State} {off : BitVec 12} {w : Width} {sp : Space} {i : Nat} (ht : targetAt off = .window sp i)
  (hbusy : s.status.busy = false) (halign : off.toNat % w.bytes = 0)
include ht hbusy halign

theorem violations_window (d : Dir) : violations s off w d = [] := by
  simp [violations, ht, hbusy, halign]

theorem hostAccess_read_window :
    hostAccess s (.read off w) = s.handBack (some (wordOfBytes (s.readBytes sp i w.bytes))) := by
  simp [hostAccess, hostRead, violations_window ht hbusy halign, hostReadOk_eq, ht]

theorem hostAccess_write_window (v : Word) :
    hostAccess s (.write off w v) = (s.writeBytes sp i (bytesOfWord w.bytes v)).handBack none := by
  simp [hostAccess, hostWrite, violations_window ht hbusy halign, hostWriteOk, ht]

end

theorem Width.bytes_le (w : Width) : w.bytes ≤ 4 := by
  cases w <;> decide

theorem Width.bytes_pos (w : Width) : 0 < w.bytes := by
  cases w <;> decide

/-- Settles O53: a read assembles the block of `w.bytes` bytes at the index, a write cuts the value into one and stores
it there. -/
theorem windowAccessesAreLittleEndian : Obligations.WindowAccessesAreLittleEndian := by
  refine ⟨by decide, ?_⟩
  intro s sp i w hbusy hfit hi
  extract_lets off
  have hlt : i < spaceSize sp := (Nat.lt_add_of_pos_right w.bytes_pos).trans_le hfit
  have hoff : off = BitVec.ofNat 12 (windowBase sp + i) := by cases sp <;> rfl
  clear_value off
  have ht : targetAt off = .window sp i := hoff ▸ targetAt_windowOffset hlt
  have halign : off.toNat % w.bytes = 0 := by rw [hoff, toNat_windowOffset hlt, windowBase_add_mod, hi]
  constructor
  · refine ⟨_, hostAccess_read_window ht hbusy halign, fun k hk => ?_, fun k hk => ?_⟩
    · rw [extractLsb'_wordOfBytes (by simpa using hk) (hk.trans_le w.bytes_le), State.getElem_readBytes]
    · exact getLsbD_wordOfBytes_of_ge (by simpa using hk)
  · intro v
    have hwrite := hostAccess_write_window ht hbusy halign v
    rw [State.writeBytes_eq] at hwrite
    refine ⟨_, hwrite, fun k hk => ?_, fun a ha => ?_⟩ <;> rw [← State.writeBytes_eq]
    · rw [State.readByte_writeBytes _ _ (by simpa using hk) (by simpa using hfit), getElem_bytesOfWord]
    · exact State.readByte_writeBytes_outside s sp (by simpa using ha)

/-! ### Bad accesses (20 R52, R53, R55, 70 R195) -/

/-- An offset that names a register is an aligned one below 0x03C, and each of those names one (20 R51, R52). -/
theorem regAt_isSome_iff (o : Nat) : (regAt o).isSome = true ↔ o < 0x03C ∧ o % 4 = 0 := by
  unfold regAt
  split
  case h_16 => grind
  all_goals decide

/-- An access whose offset and width no register and no window takes (20 R52, R53, R55). -/
def Misplaced (off : BitVec 12) (w : Width) : Prop :=
  if 0x400 ≤ off.toNat ∧ off.toNat < 0x900 then off.toNat % w.bytes ≠ 0
  else w ≠ .b32 ∨ off.toNat % 4 ≠ 0 ∨ 0x03C ≤ off.toNat

/-- What stands at an offset, by its number: a window, a register or nothing (20 R51). -/
theorem targetAt_cases (off : BitVec 12) :
    (∃ sp i, targetAt off = .window sp i ∧ 0x400 ≤ off.toNat ∧ off.toNat < 0x900) ∨
    (¬ (0x400 ≤ off.toNat ∧ off.toNat < 0x900) ∧
      ((∃ r, targetAt off = .reg r ∧ off.toNat < 0x03C ∧ off.toNat % 4 = 0) ∨
        (targetAt off = .bad ∧ ¬ (off.toNat < 0x03C ∧ off.toNat % 4 = 0)))) := by
  unfold targetAt
  dsimp only
  split
  · exact .inl ⟨_, _, rfl, by omega, by omega⟩
  · split
    · exact .inl ⟨_, _, rfl, by omega, by omega⟩
    · refine .inr ⟨by omega, ?_⟩
      rw [← regAt_isSome_iff]
      cases regAt off.toNat with
      | some r => exact .inl ⟨r, rfl, rfl⟩
      | none => exact .inr ⟨rfl, by simp⟩

/-- The records an access earns: HostAccessWhileBusy for a window while BUSY is 1, HostBadAccess for a misplaced one
(20 R52, R53, R55, 70 R195). -/
theorem mem_violations (s : State) (off : BitVec 12) (w : Width) (d : Dir) (r : FaultRecord) :
    r ∈ violations s off w d ↔
      (Misplaced off w ∧ r = .hostBadAccess off w d) ∨
      (s.status.busy = true ∧ 0x400 ≤ off.toNat ∧ off.toNat < 0x900 ∧ r = .hostAccessWhileBusy off d) := by
  obtain ⟨sp, i, ht, h⟩ | ⟨h, hstands⟩ := targetAt_cases off
  · simp [violations, Misplaced, ht, h, or_comm, and_comm]
  · have hout : ¬ (s.status.busy = true ∧ 0x400 ≤ off.toNat ∧ off.toNat < 0x900 ∧
        r = .hostAccessWhileBusy off d) := fun ⟨_, hlo, hhi, _⟩ => h ⟨hlo, hhi⟩
    rw [or_iff_left hout]
    obtain ⟨reg, ht, hlow, halign⟩ | ⟨ht, hnone⟩ := hstands
    · by_cases hw : w = .b32 <;> simp [violations, Misplaced, ht, h, halign, Nat.not_le.mpr hlow, hw]
    · have hplace : off.toNat % 4 ≠ 0 ∨ 0x03C ≤ off.toNat := by omega
      simp [violations, Misplaced, ht, h, hplace]

/-- The access of a direction; a read carries no value. -/
def accessOf (off : BitVec 12) (w : Width) (v : Word) : Dir → HostOp
  | .read => .read off w
  | .write => .write off w v

/-- An access with a violation changes FAULTS only and hands nothing back (20 R55, 60 R171, 70 R195). -/
theorem hostAccess_violating {s : State} {off : BitVec 12} {w : Width} {d : Dir} (v : Word)
    (h : violations s off w d ≠ []) :
    hostAccess s (accessOf off w v d) =
      { s with faults := (s.recordAll (violations s off w d)).faults, reply := none } := by
  have hrec : (s.recordAll (violations s off w d)).handBack none =
      { s with faults := (s.recordAll (violations s off w d)).faults, reply := none } := by
    rw [recordAll_eq]
    rfl
  cases d with
  | read => rw [accessOf, hostAccess, hostRead, if_neg h, hrec]
  | write => rw [accessOf, hostAccess, hostWrite, if_neg h, hrec]

/-- Settles O54: the access is `Misplaced`, so `mem_violations` gives its records. -/
theorem badAccessesAreOnlyRecorded : Obligations.BadAccessesAreOnlyRecorded := by
  intro s off w v h d
  have hbad : Misplaced off w := by
    obtain ⟨hlo, hw⟩ | ⟨hlo, hhi⟩ | hhi | ⟨hlo, hhi, ⟨rfl, hodd⟩ | ⟨rfl, hodd⟩⟩ := h
    · rw [Misplaced, if_neg (by omega)]
      exact hw.imp_right .inl
    · rw [Misplaced, if_neg (by omega)]
      exact .inr (.inr hlo)
    · rw [Misplaced, if_neg (by omega)]
      exact .inr (.inr (by omega))
    · rw [Misplaced, if_pos ⟨hlo, hhi⟩]
      exact hodd
    · rw [Misplaced, if_pos ⟨hlo, hhi⟩]
      exact hodd
  have hmem := mem_violations s off w d
  have hne : violations s off w d ≠ [] := List.ne_nil_of_mem ((hmem _).mpr (.inl ⟨hbad, rfl⟩))
  refine ⟨(s.recordAll (violations s off w d)).faults, ?_, fun r => ?_⟩
  · cases d <;> exact hostAccess_violating v hne
  · rw [mem_recordAll, hmem]
    simp only [hbad, true_and]

end Sys2Proof.Machine
end

section
/-! ## The command word (30 R71..R77): a row selects a word by its OP and by the bits its format does not admit, so the
rows' words are disjoint, and the fields of a word and the word of the fields give one another back. -/

namespace Sys2Proof

/-! ### Which words a row selects (30 R76) -/

/-- A format fixes every bit but those of the fields it admits (30 R72). -/
theorem Format.mask_eq (f : Format) : f.mask = ~~~f.admitted := by
  cases f <;> rfl

/-- The fixed bits are OP's and the stray ones (30 R72, R76). -/
theorem Format.mask_eq_or (f : Format) : f.mask = 0xFF#32 ||| ~~~(0xFF#32 ||| f.admitted) := by
  cases f <;> rfl

/-- OP is never among the admitted fields, so it is masked whole (30 R72). -/
theorem Format.fieldOp_mask (f : Format) : fieldOp f.mask = BitVec.allOnes 8 := by
  cases f <;> rfl

theorem fieldOp_and (u v : Word) : fieldOp (u &&& v) = fieldOp u &&& fieldOp v := BitVec.extractLsb'_and

/-- The byte OP alone, as bits 7:0 of the word. -/
theorem and_opMask (w : Word) : w &&& 0xFF#32 = (fieldOp w).setWidth 32 := by
  refine BitVec.eq_of_toNat_eq ?_
  have h : (w &&& 0xFF#32).toNat = w.toNat % 2 ^ 8 := Nat.and_two_pow_sub_one_eq_mod w.toNat 8
  rw [h, fieldOp, BitVec.toNat_setWidth, BitVec.extractLsb'_toNat, Nat.shiftRight_zero]
  omega

/-- The match of a row has its OP in OP, and nothing else (30 R75). -/
theorem Row.fieldOp_matchWord (r : Row) : fieldOp r.matchWord = r.op := by
  refine BitVec.eq_of_toNat_eq ?_
  simp only [fieldOp, Row.matchWord, BitVec.extractLsb'_toNat, BitVec.toNat_setWidth, Nat.shiftRight_zero]
  omega

/-- The match of a row lies within OP (30 R75). -/
theorem Row.matchWord_eq_and (r : Row) : r.matchWord = r.matchWord &&& 0xFF#32 := by
  rw [and_opMask, r.fieldOp_matchWord, Row.matchWord]

/-- OP selects the row, and then the stray bits decide (30 R76). -/
theorem Row.selects_iff (r : Row) (w : Word) :
    (w &&& r.format.mask) = r.matchWord ↔
      r.op = fieldOp w ∧ (w &&& ~~~(0xFF#32 ||| r.format.admitted)) = 0#32 := by
  have hsplit : w &&& r.format.mask = (fieldOp w).setWidth 32 ||| (w &&& ~~~(0xFF#32 ||| r.format.admitted)) := by
    rw [Format.mask_eq_or, BitVec.and_or_distrib_left, and_opMask]
  constructor
  · intro h
    have hop : r.op = fieldOp w := by
      rw [← r.fieldOp_matchWord, ← h, fieldOp_and, Format.fieldOp_mask, BitVec.and_allOnes]
    have hstray : ~~~(0xFF#32 ||| r.format.admitted) = r.format.mask &&& ~~~0xFF#32 := by
      cases r.format <;> rfl
    rw [hstray, ← BitVec.and_assoc, h, r.matchWord_eq_and, BitVec.and_assoc, BitVec.and_not_self]
    exact ⟨hop, BitVec.and_zero⟩
  · rintro ⟨hop, hstray⟩
    rw [hsplit, hstray, BitVec.or_zero, ← hop, Row.matchWord]

/-! ### The rows are disjoint, so `decode` is the one row's reading (30 R75, R76) -/

/-- The OPs of 30 R75: 0x00 to 0x04, 0x10 to 0x1D and 0x20 to 0x27. -/
theorem opcodeRows_ops :
    opcodeRows.map (fun r => r.op.toNat) = List.range' 0x00 5 ++ List.range' 0x10 14 ++ List.range' 0x20 8 := rfl

/-- No OP stands in two rows (30 R75). -/
theorem row_eq_of_op_eq {r r' : Row} (hr : r ∈ opcodeRows) (hr' : r' ∈ opcodeRows) (h : r.op = r'.op) : r = r' := by
  have hnodup : (opcodeRows.map (fun r => r.op.toNat)).Nodup := by decide
  exact List.inj_on_of_nodup_map hnodup hr hr' (congrArg BitVec.toNat h)

/-- At most one row selects a word (30 R76). -/
theorem row_eq_of_selects {r r' : Row} {w : Word} (hr : r ∈ opcodeRows) (hr' : r' ∈ opcodeRows)
    (h : (w &&& r.format.mask) = r.matchWord) (h' : (w &&& r'.format.mask) = r'.matchWord) : r = r' := by
  obtain ⟨hop, -⟩ := (r.selects_iff w).mp h
  obtain ⟨hop', -⟩ := (r'.selects_iff w).mp h'
  exact row_eq_of_op_eq hr hr' (hop.trans hop'.symm)

/-- A word decodes as the row that selects it reads it (30 R76). -/
theorem decode_ok_iff (w : Word) (i : Instr) :
    decode w = .ok i ↔ ∃ r ∈ opcodeRows, (w &&& r.format.mask) = r.matchWord ∧ r.read w = i := by
  unfold decode
  split
  · rename_i r hfind
    have hr := List.mem_of_find?_eq_some hfind
    have hsel : (w &&& r.format.mask) = r.matchWord := by simpa [Row.selects] using List.find?_some hfind
    constructor
    · intro h
      exact ⟨r, hr, hsel, by simpa using h⟩
    · rintro ⟨r', hr', hsel', rfl⟩
      rw [row_eq_of_selects hr hr' hsel hsel']
  · rename_i hnone
    have hno : ∀ r ∈ opcodeRows, (w &&& r.format.mask) ≠ r.matchWord := by
      simpa [Row.selects] using List.find?_eq_none.mp hnone
    constructor
    · intro h
      split at h <;> cases h
    · rintro ⟨r, hr, hsel, -⟩
      exact absurd hsel (hno r hr)

/-- A word is legal iff some row selects it (30 R76). -/
theorem legal_iff (w : Word) :
    (∃ i, decode w = .ok i) ↔ ∃ r ∈ opcodeRows, (w &&& r.format.mask) = r.matchWord := by
  simp only [decode_ok_iff]
  constructor
  · rintro ⟨i, r, hr, hsel, -⟩
    exact ⟨r, hr, hsel⟩
  · rintro ⟨r, hr, hsel⟩
    exact ⟨r.read w, r, hr, hsel, rfl⟩

/-- A word with a row's OP is legal iff its stray bits are 0 (30 R76). -/
theorem legal_iff_of_op {w : Word} {r : Row} (hr : r ∈ opcodeRows) (hop : r.op = fieldOp w) :
    (∃ i, decode w = .ok i) ↔ (w &&& ~~~(0xFF#32 ||| r.format.admitted)) = 0#32 := by
  rw [legal_iff]
  constructor
  · rintro ⟨r', hr', hsel⟩
    obtain ⟨hop', hstray⟩ := (r'.selects_iff w).mp hsel
    rwa [row_eq_of_op_eq hr hr' (hop.trans hop'.symm)]
  · intro hstray
    exact ⟨r, hr, (r.selects_iff w).mpr ⟨hop, hstray⟩⟩

/-- Settles O4: a row selects a word by its OP and its stray bits (`Row.selects_iff`), and no two rows share an OP. -/
theorem legalWordsAreTheRowsWords : Obligations.LegalWordsAreTheRowsWords := by
  refine ⟨legal_iff, fun w r hr r' hr' h h' => ?_, fun w r hr hop => legal_iff_of_op hr hop⟩
  rw [row_eq_of_selects hr hr' h h']
  exact ⟨rfl, rfl⟩

/-- The OPs that some row has, by number (30 R75). -/
theorem exists_row_iff (b : Byte) :
    (∃ r ∈ opcodeRows, r.op = b) ↔
      b.toNat ≤ 0x04 ∨ (0x10 ≤ b.toNat ∧ b.toNat ≤ 0x1D) ∨ (0x20 ≤ b.toNat ∧ b.toNat ≤ 0x27) := by
  have hmem : (∃ r ∈ opcodeRows, r.op = b) ↔ b.toNat ∈ opcodeRows.map (fun r => r.op.toNat) := by
    simp only [List.mem_map, BitVec.toNat_inj]
  rw [hmem, opcodeRows_ops]
  simp only [List.mem_append, List.mem_range'_1]
  omega

theorem decode_error_iff (w : Word) : (∃ e, decode w = .error e) ↔ ¬ ∃ i, decode w = .ok i := by
  cases decode w <;> simp

/-- A word is illegal iff no row has its OP, or the row that has it leaves a stray bit set (30 R77). -/
theorem illegal_iff (w : Word) :
    (∃ e, decode w = .error e) ↔ (¬ ∃ r ∈ opcodeRows, r.op = fieldOp w) ∨
      ∃ r ∈ opcodeRows, r.op = fieldOp w ∧ (w &&& ~~~(0xFF#32 ||| r.format.admitted)) ≠ 0#32 := by
  rw [decode_error_iff]
  by_cases h : ∃ r ∈ opcodeRows, r.op = fieldOp w
  · obtain ⟨r, hr, hop⟩ := h
    rw [legal_iff_of_op hr hop, or_iff_right (not_not_intro ⟨r, hr, hop⟩)]
    constructor
    · exact fun hstray => ⟨r, hr, hop, hstray⟩
    · rintro ⟨r', hr', hop', hstray⟩
      rwa [row_eq_of_op_eq hr hr' (hop.trans hop'.symm)]
  · rw [legal_iff, iff_true_right (.inl h)]
    rintro ⟨r, hr, hsel⟩
    obtain ⟨hop, -⟩ := (r.selects_iff w).mp hsel
    exact h ⟨r, hr, hop⟩

/-! ### The fields of a word (30 R71) -/

/-- Field C put back where it stood. -/
theorem bitC_fieldC (w : Word) : bitC (fieldC w) = w &&& 0x100#32 := by
  have h : w &&& 0x100#32 = if w.getLsbD 8 then 0x100#32 else 0#32 := BitVec.and_twoPow w 8
  rw [h, fieldC]
  split <;> rfl

/-- Field Q put back where it stood. -/
theorem bitQ_fieldQ (w : Word) : bitQ (fieldQ w) = w &&& 0x800#32 := by
  have h : w &&& 0x800#32 = if w.getLsbD 11 then 0x800#32 else 0#32 := BitVec.and_twoPow w 11
  rw [h, fieldQ]
  cases w.getLsbD 11 <;> rfl

/-- Field F put back where it stood. -/
theorem bitsF_fieldF (w : Word) : bitsF (fieldF w) = w &&& 0x600#32 := by
  have h : bitsF (fieldF w) = (w.extractLsb' 9 2).setWidth 32 <<< 9 := by
    rw [bitsF, fieldF, BitVec.ofNat_toNat]
  rw [h]
  refine BitVec.eq_of_getLsbD_eq fun k hk => ?_
  interval_cases k <;> simp

theorem slotOk_fieldF (w : Word) : slotOk (fieldF w) = true := decide_eq_true (w.extractLsb' 9 2).isLt

theorem fieldC_or_bitC {u : Word} (h : u.getLsbD 8 = false) (c : Color) : fieldC (u ||| bitC c) = c := by
  cases c with
  | black => simpa [fieldC, bitC] using h
  | white => simp [fieldC, bitC]

theorem fieldC_or_bitsF (u : Word) (f : Nat) : fieldC (u ||| bitsF f) = fieldC u := by
  simp [fieldC, bitsF]

theorem fieldQ_or_bitQ {u : Word} (h : u.getLsbD 11 = false) (q : Bool) : fieldQ (u ||| bitQ q) = q := by
  cases q with
  | false => simpa [fieldQ, bitQ] using h
  | true => simp [fieldQ, bitQ]

/-- Field F is what was put into it, when that fits its two bits. -/
theorem fieldF_or_bitsF {u : Word} (h : u.extractLsb' 9 2 = 0#2) {f : Nat} (hf : slotOk f = true) :
    fieldF (u ||| bitsF f) = f := by
  have hlt : f < 2 ^ 2 := of_decide_eq_true hf
  have hbits : (bitsF f).extractLsb' 9 2 = BitVec.ofNat 2 f := by
    refine BitVec.eq_of_toNat_eq ?_
    simp only [bitsF, BitVec.extractLsb'_toNat, BitVec.toNat_shiftLeft, BitVec.toNat_ofNat, Nat.shiftLeft_eq,
      Nat.shiftRight_eq_div_pow]
    omega
  rw [fieldF, BitVec.extractLsb'_or, h, hbits, BitVec.zero_or, BitVec.toNat_ofNat, Nat.mod_eq_of_lt hlt]

/-! ### A row's reading and the instruction's word are inverse (30 R71, R75) -/

/-- What a row reads has the word of the row's OP and the fields of its format (30 R71, R72, R75). -/
theorem encode_read (w : Word) :
    ∀ r ∈ opcodeRows, encode (r.read w) = r.matchWord ||| (w &&& r.format.admitted) := by
  have hcf : w &&& 0x700#32 = (w &&& 0x100#32) ||| (w &&& 0x600#32) := by
    rw [← BitVec.and_or_distrib_left]
    rfl
  simp [opcodeRows, busRows, displayRows, graphicsRows, encode, Row.matchWord, Format.admitted, bitC_fieldC,
    bitQ_fieldQ, bitsF_fieldF, hcf, BitVec.or_assoc]

/-- What a row reads is well formed: F is two bits wide (30 R71). -/
theorem wf_read (w : Word) : ∀ r ∈ opcodeRows, (r.read w).wf = true := by
  simp [opcodeRows, busRows, displayRows, graphicsRows, Instr.wf, slotOk_fieldF]

/-- The row of an instruction reads the instruction's word back; the rows stand in the order of the constructors
(30 R75). -/
theorem exists_row_read_encode {i : Instr} (h : i.wf = true) :
    ∃ r, opcodeRows[i.ctorIdx]? = some r ∧ r.read (encode i) = i := by
  cases i
  case busInit q | invertDisplay q => exact ⟨_, rfl, congrArg _ (fieldQ_or_bitQ rfl q)⟩
  case fill c | drawPixel c | drawLine c | drawRect c | drawFilledRect c | drawTriangle c | drawCircle c
      | drawFilledCircle c | drawBitmap c =>
    exact ⟨_, rfl, congrArg _ (fieldC_or_bitC rfl c)⟩
  case putc c f | puts c f =>
    have hF : ∀ op : Word, op.extractLsb' 9 2 = 0#2 → (op ||| bitC c).extractLsb' 9 2 = 0#2 := fun op hop => by
      rw [BitVec.extractLsb'_or, hop]
      cases c <;> rfl
    have hC : ∀ op : Word, op.getLsbD 8 = false → fieldC (op ||| bitC c ||| bitsF f) = c := fun op hop =>
      (fieldC_or_bitsF _ f).trans (fieldC_or_bitC hop c)
    exact ⟨_, rfl, congrArg₂ _ (hC _ rfl) (fieldF_or_bitsF (hF _ rfl) h)⟩
  all_goals exact ⟨_, rfl, rfl⟩

/-- The word of a row's OP with any fields its format admits is one the row selects. -/
theorem Row.selects_word (r : Row) (w : Word) :
    (r.matchWord ||| (w &&& r.format.admitted)) &&& r.format.mask = r.matchWord := by
  have hfields : (w &&& r.format.admitted) &&& r.format.mask = 0#32 := by
    rw [Format.mask_eq, BitVec.and_assoc, BitVec.and_not_self]
    exact BitVec.and_zero
  have hop : 0xFF#32 &&& r.format.mask = 0xFF#32 := by cases r.format <;> rfl
  rw [BitVec.and_or_distrib_right, hfields, BitVec.or_zero, r.matchWord_eq_and, BitVec.and_assoc, hop]

/-- Settles O2: the instruction's row reads its word back, so its word is the row's OP with admitted fields, and the row
selects it. -/
theorem decodeOfEncodeIsTheInstruction : Obligations.DecodeOfEncodeIsTheInstruction := by
  intro i hi
  obtain ⟨r, hget, hread⟩ := exists_row_read_encode hi
  have hr := List.mem_of_getElem? hget
  have hword : encode i = r.matchWord ||| (encode i &&& r.format.admitted) := by
    rw [← encode_read _ r hr, hread]
  refine (decode_ok_iff _ _).mpr ⟨r, hr, ?_, hread⟩
  rw [hword, r.selects_word]

/-- Settles O3: the row that selects the word fixes every bit but the fields it reads. -/
theorem encodeOfDecodeIsTheWord : Obligations.EncodeOfDecodeIsTheWord := by
  intro w i h
  obtain ⟨r, hr, hsel, rfl⟩ := (decode_ok_iff w i).mp h
  refine ⟨?_, wf_read w r hr⟩
  calc
    encode (r.read w) = (w &&& r.format.mask) ||| (w &&& r.format.admitted) := by rw [encode_read w r hr, hsel]
    _ = w &&& (~~~r.format.admitted ||| r.format.admitted) := by rw [← BitVec.and_or_distrib_left, Format.mask_eq]
    _ = w := by rw [BitVec.or_comm, BitVec.or_not_self, BitVec.and_allOnes]

/-- Settles O1: the decoder evaluates on each of the fixed words. -/
theorem decodesTheVectorWords : Obligations.DecodesTheVectorWords := by
  unfold Obligations.DecodesTheVectorWords
  decide

end Sys2Proof
end

section
/-! ## Illegal words and illegal operands complete with ILLEGAL_COMMAND and nothing else, and no other command does
(30 R77, R78) -/

namespace Sys2Proof.Machine

/-- `complete(ILLEGAL_COMMAND)` with RESULT 0 changes the report and the mode only (30 R77, 40 R94). -/
theorem complete_illegalCommand (s : State) :
    Ended s (s.complete .illegalCommand 0 0) .illegalCommand 0 ∧ KeepsRest s (s.complete .illegalCommand 0 0) := by
  constructor
  · constructor <;> rfl
  · constructor <;> constructor <;> rfl

theorem engineStep_of_illegal {s : State} {l : Latch} {p : Option Pos} {e : Reject} (he : s.eng = .exec l p)
    (hd : decode l.cmd = .error e) : engineStep s = .next (illegalWord s) := by
  simp only [engineStep, he, hd]

/-- Settles O5: `illegal_iff` with the OPs of the rows by number, and the step is `illegalWord`. -/
theorem illegalWordsCompleteWithNoOtherEffect : Obligations.IllegalWordsCompleteWithNoOtherEffect := by
  refine ⟨fun w => ?_, fun s l p e he hd => ?_⟩
  · rw [illegal_iff, exists_row_iff]
  · obtain ⟨hend, hkeep⟩ := complete_illegalCommand s
    exact ⟨_, engineStep_of_illegal he hd, hend, hkeep, rfl, rfl, rfl⟩

/-! ### The operand checks (30 R78) -/

theorem illegalOperands_transmit_iff (l : Latch) : illegalOperands .transmit l ↔ transmitLegal l = false := by
  rw [transmitLegal, Bool.and_eq_false_iff, decide_eq_false_iff_not, decide_eq_false_iff_not, Nat.not_le, Nat.not_le]
  rfl

theorem illegalOperands_receive_iff (l : Latch) : illegalOperands .receive l ↔ receiveLegal l = false := by
  rw [receiveLegal, Bool.and_eq_false_iff, ← illegalOperands_transmit_iff, decide_eq_false_iff_not, Nat.not_lt,
    Nat.le_zero]
  rfl

/-- A first step whose operands fail a check completes with ILLEGAL_COMMAND (30 R78). -/
theorem exec_of_illegalOperands {i : Instr} {s : State} {l : Latch} (he : s.eng = .exec l none)
    (h : illegalOperands i l) : exec i s = .next (s.complete .illegalCommand 0 0) := by
  cases i
  case transmit =>
    rw [illegalOperands_transmit_iff] at h
    exact (inExec_exec he _).trans (by simp [busStep, h])
  case receive =>
    rw [illegalOperands_receive_iff] at h
    exact (inExec_exec he _).trans (by simp [busStep, h])
  case putc c k => exact (inExec_exec he _).trans (by simp [putcStep, Option.isNone_iff_eq_none.mp h])
  case puts c k => exact (inExec_exec he _).trans (by simp [putsStep, Option.isNone_iff_eq_none.mp h])
  all_goals exact h.elim

/-! ### The ERR of a command whose operands pass (60 R170)

A poll leaves ERR as it is or ends the command with OK, DEVICE_NOT_READY or BUS_TIMEOUT. -/

theorem nextItem_err (c : BusCmd) (l : Latch) (p : Pos) (i : Nat) (s : State) :
    (nextItem c l p i s).status.err ∈ [s.status.err, .ok, .deviceNotReady, .busTimeout] := by
  unfold nextItem
  split <;> simp [busSucceed]

theorem endTransaction_err (c : BusCmd) (l : Latch) (p : Pos) (s : State) :
    (endTransaction c l p s).status.err ∈ [s.status.err, .ok, .deviceNotReady, .busTimeout] := by
  unfold endTransaction
  split
  · exact nextItem_err ..
  · split
    · exact nextItem_err ..
    · split <;> simp [busNotReady]

theorem endPhase_err (c : BusCmd) (l : Latch) (x : Xact) (p : Pos) (a : Answer) (s : State) :
    (endPhase c l x p a s).status.err ∈ [s.status.err, .ok, .deviceNotReady, .busTimeout] := by
  unfold endPhase
  split
  · simp
  · simp
  · simp
  · simp [(polled_storeReceived x p.byte a s).status]
  · exact endTransaction_err ..

theorem pollPhase_err (c : BusCmd) (l : Latch) (x : Xact) (p : Pos) (s : State) :
    (pollPhase c l x p s).status.err ∈ [s.status.err, .ok, .deviceNotReady, .busTimeout] := by
  obtain ⟨-, h⟩ | ⟨-, -, h⟩ | ⟨-, -, h⟩ := pollPhase_cases c l x p s <;> rw [h]
  · simpa using endPhase_err c l x p s.nextAnswer (s.takeAnswer.consume s.nextAnswer)
  · simp [busFail]
  · simp

theorem busPoll_err (P : Params) (c : BusCmd) (l : Latch) (p : Pos) (s : State) :
    (busPoll P c l p s).status.err ∈ [s.status.err, .ok, .deviceNotReady, .busTimeout] := by
  cases h : c.current p with
  | none => simp [busPoll, h, busSucceed]
  | some x =>
    rw [busPoll_eq P l s h, ← (polled_pollState s x p).status]
    exact pollPhase_err ..

/-- A bus command that passes its operand check is not rejected as illegal (60 R174). -/
theorem busStep_legal_ne_illegalCommand (P : Params) (c : BusCmd) (l : Latch) {s : State} (hs : s.status.err = .ok) :
    (busStep P true c l none s).status.err ≠ .illegalCommand := by
  have hpoll : ∀ p, (busPoll P c l p s).status.err ≠ .illegalCommand := fun p hp => by
    have h := busPoll_err P c l p s
    rw [hs, hp] at h
    exact absurd h (by decide)
  simp only [busStep, if_true]
  split
  · unfold busBegin
    split
    · split
      · simp [busNotReady]
      · exact hpoll _
    · exact hpoll _
  · simp

theorem busInit_ne_illegalCommand (P : Params) (duty : Bool) (l : Latch) (s : State) :
    (busInit P duty l s).status.err ≠ .illegalCommand := by
  unfold busInit
  split <;> nofun

theorem putcStep_ne_illegalCommand {font : Option Font} (h : ¬ font.isNone = true) (c : Color) (l : Latch)
    (s : State) :
    (putcStep font c l s).status.err ≠ .illegalCommand := by
  cases font with
  | none => exact absurd rfl h
  | some f =>
    simp only [putcStep]
    split <;> simp

theorem putsLoop_ne_illegalCommand (f : Font) (c : Color) (fuel k : Nat) (s : State) :
    (putsLoop f c fuel k s).status.err ≠ .illegalCommand := by
  induction fuel generalizing k s with
  | zero => simp [putsLoop]
  | succ fuel ih =>
    simp only [putsLoop]
    split
    · simp
    · split
      · simp
      · exact ih _ _

theorem putsStep_ne_illegalCommand {font : Option Font} (h : ¬ font.isNone = true) (c : Color) (l : Latch)
    (s : State) :
    (putsStep font c l s).status.err ≠ .illegalCommand := by
  cases font with
  | none => exact absurd rfl h
  | some f => exact putsLoop_ne_illegalCommand f c _ _ s

/-- A first step whose operands pass the checks never ends with ILLEGAL_COMMAND (30 R78). -/
theorem exec_err_of_legalOperands {i : Instr} {s t : State} {l : Latch} (he : s.eng = .exec l none)
    (hs : s.status.err = .ok) (h : ¬ illegalOperands i l) (hx : exec i s = .next t) :
    t.status.err ≠ .illegalCommand := by
  cases i <;> obtain rfl := Host.Outcome.next.inj ((inExec_exec he _).symm.trans hx)
  case transmit =>
    rw [illegalOperands_transmit_iff, Bool.not_eq_false] at h
    rw [h]
    exact busStep_legal_ne_illegalCommand _ _ l hs
  case receive =>
    rw [illegalOperands_receive_iff, Bool.not_eq_false] at h
    rw [h]
    exact busStep_legal_ne_illegalCommand _ _ l hs
  case putc c k => exact putcStep_ne_illegalCommand h c l s
  case puts c k => exact putsStep_ne_illegalCommand h c l s
  case busInit duty => exact busInit_ne_illegalCommand _ duty l s
  case nop | fill | clear | gotoXY => nofun
  case drawPixel | drawLine | drawRect | drawFilledRect | drawTriangle | drawCircle | drawFilledCircle | drawBitmap =>
    nofun
  all_goals exact busStep_legal_ne_illegalCommand _ _ l hs

/-- Settles O6: the checks that fail, and the ERR of every command whose checks pass. -/
theorem operandChecksDecideIllegality : Obligations.OperandChecksDecideIllegality := by
  intro i s l he hs
  obtain ⟨hend, hkeep⟩ := complete_illegalCommand s
  exact ⟨fun h => ⟨_, exec_of_illegalOperands he h, hend, hkeep, rfl, rfl, rfl⟩,
    fun h t hx => exec_err_of_legalOperands he hs h hx⟩

end Sys2Proof.Machine
end

section
/-! ## The command life cycle: acceptance, and the step of the decoded command (40 R92, R93, 60 R170) -/

namespace Sys2Proof.Machine

/-- Settles O9: an access of CMD is `State.writeCmd`, and its three cases are `writeCmd_cases`. -/
theorem commandWriteHasThreeCases : Obligations.CommandWriteHasThreeCases := by
  intro s v
  have hacc : hostAccess s (.write 0x000 .b32 v) = (s.writeCmd v).handBack none := hostAccess_write_reg s .cmd v
  rw [hacc]
  obtain ⟨hh, hw⟩ | ⟨hh, hb, hw⟩ | ⟨hh, hb, hw⟩ := writeCmd_cases s v <;> rw [hw, hh]
  · exact ⟨fun _ => rfl, nofun, nofun⟩
  · rw [hb]
    exact ⟨nofun, fun _ _ => rfl, nofun⟩
  · rw [hb]
    exact ⟨nofun, nofun, fun _ _ => ⟨rfl, rfl⟩⟩

/-! ### The next listed event (00 R12) -/

/-- A listed event leaves the schedule, and its agent steps. -/
theorem step_of_listed {s : State} {e : Event} {rest : List Event} (hs : s.schedule = e :: rest) :
    step s = agentStep e { s with schedule := rest } := by
  simp [step, nextEvent, popEvent, hs]

/-- In EXEC the engine runs its decoded word (40 R93). -/
theorem engineStep_decoded {s : State} {l : Latch} {p : Option Pos} {i : Instr} (he : s.eng = .exec l p)
    (hd : decode l.cmd = .ok i) : engineStep s = exec i s := by
  simp only [engineStep, he, hd]

/-- An engine event is a step of the decoded command (40 R93). -/
theorem step_of_engine {s : State} {l : Latch} {p : Option Pos} {i : Instr} {rest : List Event}
    (hs : s.schedule = .engine :: rest) (he : s.eng = .exec l p) (hd : decode l.cmd = .ok i) :
    step s = exec i { s with schedule := rest } := by
  rw [step_of_listed hs]
  exact engineStep_decoded he hd

/-- A host access that is the block's access `op` is that access (20 R51). -/
theorem hostStep_of_blockOp {base : Nat} {acc : HostAccess} {op : HostOp} (h : acc.blockOp base = some op)
    (s : State) : hostStep base acc s = hostAccess s op := by
  simp only [hostStep, h]

/-- A host access outside the block changes nothing (log 15). -/
theorem hostStep_outside {base : Nat} {acc : HostAccess} (h : acc.blockOp base = none) (s : State) :
    hostStep base acc s = s := by
  simp only [hostStep, h]

/-- Settles O7: a listed event by `step_of_listed`, the free turn by the two values of the free choice, and
`withFetchWord` lists an engine step. -/
theorem stepRunsTheDecodedCommand : Obligations.StepRunsTheDecodedCommand := by
  refine ⟨fun s l p i rest he hs hd => step_of_engine hs he hd, ?_, ?_, ?_, ?_, ?_⟩
  · intro s l p i he hs hd
    have hrun : engineStep { s with draws := s.draws + 1 } = exec i { s with draws := s.draws + 1 } :=
      engineStep_decoded he hd
    rw [← hrun]
    simp only [step, nextEvent, popEvent, hs, he]
    cases Config.engineTurn s.draws <;> rfl
  · intro s w i hw hd
    have hword : s.withFetchWord 32 w = placeCommand s (BitVec.ofNat 32 w) := by
      rw [State.withFetchWord, Nat.mod_eq_of_lt hw]
    rw [hword]
    exact step_of_engine (s := placeCommand s (BitVec.ofNat 32 w)) rfl rfl hd
  · intro s rest off w hs
    rw [step_of_listed hs, agentStep, hostStep_of_blockOp (op := .read off w)]
    simp [HostAccess.blockOp, blockOffset_add]
  · intro s rest off w v hs
    rw [step_of_listed hs, agentStep, hostStep_of_blockOp (op := .write off w v)]
    simp [HostAccess.blockOp, blockOffset_add]
  · intro s rest addr w v hout hs
    obtain hs | hs := hs <;> rw [step_of_listed hs, agentStep, hostStep_outside] <;>
      simp [HostAccess.blockOp, blockOffset_outside hout]

/-! ### Every step answers (60 R170, R173) -/

/-- In EXEC every command has a step (40 R93). -/
theorem exec_answers (i : Instr) {s : State} {l : Latch} {p : Option Pos} (he : s.eng = .exec l p) :
    ∃ t, exec i s = .next t := by
  cases i <;> exact ⟨_, inExec_exec he _⟩

/-- In IDLE no command has a step (40 R93, log 11). -/
theorem exec_idle (i : Instr) {s : State} (he : s.eng = .idle) : exec i s = .fault .engineIdle := by
  have hidle : ∀ f, inExec s f = .fault .engineIdle := fun f => by simp [inExec, he]
  cases i <;> exact hidle _

theorem engineStep_answers (s : State) : ∃ t, engineStep s = .next t := by
  obtain ⟨-, h⟩ | ⟨l, p, i, he, -, h⟩ | ⟨l, p, e, -, -, h⟩ := engineStep_cases s <;> rw [h]
  · exact ⟨_, rfl⟩
  · exact exec_answers i he
  · exact ⟨_, rfl⟩

/-- Settles O8, agent by agent. -/
theorem everyStepAnswersANextState : Obligations.EveryStepAnswersANextState := by
  refine ⟨fun s => ?_, fun i s l p he => exec_answers i he, fun i s he => exec_idle i he⟩
  obtain ⟨acc, -, h⟩ | ⟨-, h⟩ | ⟨-, -, h⟩ | ⟨-, -, h⟩ | ⟨-, h⟩ := step_cases s <;> rw [h]
  · exact ⟨_, rfl⟩
  · exact engineStep_answers _
  · exact engineStep_answers _
  · exact ⟨_, rfl⟩
  · exact ⟨_, rfl⟩

end Sys2Proof.Machine
end

section
/-! ## NOP, BUS_INIT, and what every bus command shares: CONFIGURED, the address byte and the budgets (40 R91, R95,
R100, R103..R105, R109) -/

namespace Sys2Proof.Machine

/-- A completion that is no timeout writes the report and the mode only (40 R94). -/
theorem complete_ended (s : State) {code : ErrCode} (r : Word) (h : code ≠ .busTimeout) :
    Ended s (s.complete code r 0) code r ∧ KeepsRest s (s.complete code r 0) := by
  constructor
  · exact ⟨rfl, rfl, rfl, rfl, by simp [State.complete, h]⟩
  · constructor <;> constructor <;> rfl

/-! ### NOP (40 R103) -/

/-- A word of OP 0x00 with one of bits 31:8 set is illegal: NOP's row admits none of them. -/
theorem illegal_of_nop_strayBits {w : Word} (hop : fieldOp w = 0x00#8) (hbits : w.extractLsb' 8 24 ≠ 0#24) :
    ∃ e, decode w = .error e := by
  refine (illegal_iff w).mpr (.inr ⟨⟨0x00, .n, fun _ => .nop⟩, by simp [opcodeRows, busRows], hop.symm, fun h => ?_⟩)
  have hhigh : (w &&& ~~~(0xFF#32 ||| Format.n.admitted)).extractLsb' 8 24 = w.extractLsb' 8 24 := by
    rw [BitVec.extractLsb'_and]
    exact BitVec.and_allOnes
  exact hbits (by rw [← hhigh, h]; rfl)

/-- Settles O13. -/
theorem nopOnlyReports : Obligations.NopOnlyReports := by
  refine ⟨fun s l p he => ?_, by decide, fun s l p he hop hbits => ?_⟩
  · obtain ⟨hend, hkeep⟩ := complete_ended s 0 (code := .ok) (by decide)
    exact ⟨_, inExec_exec he _, hend, hkeep, rfl, rfl, rfl⟩
  · obtain ⟨e, hd⟩ := illegal_of_nop_strayBits hop hbits
    obtain ⟨hend, hkeep⟩ := complete_illegalCommand s
    exact ⟨_, engineStep_of_illegal he hd, hend, hkeep⟩

/-! ### BUS_INIT (40 R104, R105) -/

/-- A BUS_INIT that programs the bus writes the speed registers, CONFIGURED and BUS_DIRTY beside the report (40
R104). -/
theorem busInitDone_eq (P : Params) (duty : Bool) (l : Latch) (s : State) :
    busInitDone P duty l s = { s with
      busCcr := P.ccrFn l.arg0 l.arg1 duty, busTrise := P.triseFn l.arg0 l.arg1, result := 0, eng := .idle
      status := { s.status with configured := true, busDirty := false, err := .ok, busy := false } } := rfl

/-- A BUS_INIT that halts writes CONFIGURED, HALTED and FAULTS beside the report (40 R105). -/
theorem busInitHalt_eq (s : State) :
    busInitHalt s = { s with
      faults := (s.record .halted).faults, result := 0, eng := .idle
      status := { s.status with configured := false, halted := true, err := .configUnprogrammable, busy := false } } :=
  rfl

/-- Settles O14, by the two values of the OPEN predicate; after the halt a CMD write is dropped (40 R92 case 1). -/
theorem busInitProgramsOrHalts : Obligations.BusInitProgramsOrHalts := by
  intro q s l p he
  have hexec : exec (.busInit q) s = .next (busInit Config.params q l s) := inExec_exec he _
  have hkeep : KeepsHostRegs s (busInit Config.params q l s) := by
    rw [busInit_eq]
    constructor <;> rfl
  refine ⟨_, hexec, hkeep, ?_⟩
  unfold busInit
  cases Config.params.busProgrammable l.arg0 l.arg1 q with
  | true =>
    rw [if_pos rfl, if_pos rfl, busInitDone_eq]
    exact ⟨rfl, rfl, rfl, rfl, rfl, rfl, rfl, rfl, rfl, rfl, rfl, rfl, rfl, ⟨rfl, rfl, rfl, rfl, rfl⟩, rfl, rfl, rfl,
      rfl, rfl, rfl⟩
  | false =>
    rw [if_neg Bool.false_ne_true, if_neg Bool.false_ne_true]
    have hdrop := fun v => (commandWriteHasThreeCases (busInitHalt s) v).1 rfl
    have hrec := mem_record s .halted
    rw [busInitHalt_eq] at hdrop ⊢
    exact ⟨rfl, rfl, rfl, rfl, rfl, rfl, rfl, rfl, rfl, rfl, rfl, rfl, rfl, ⟨rfl, rfl, rfl, rfl, rfl⟩, ⟨rfl, rfl⟩, rfl,
      rfl, rfl, (hrec _).mpr (.inr rfl), hrec, hdrop⟩

/-! ### CONFIGURED (40 R109, 60 R174) -/

theorem exists_busCmdOf {i : Instr} (h : usesBus i = true) (l : Latch) (s : State) : ∃ c, busCmdOf i l s = some c := by
  cases i <;> simp [usesBus, busCmdOf] at h ⊢

/-- The first engine step of a bus command whose operands are legal (60 R174). -/
theorem exec_first_legal {i : Instr} {s : State} {l : Latch} {c : BusCmd} (he : s.eng = .exec l none)
    (hb : busCmdOf i l s = some c) (h : ¬ illegalOperands i l) :
    exec i s = .next (busStep Config.params true c l none s) := by
  cases i <;> simp only [busCmdOf, Option.some.injEq, reduceCtorEq] at hb <;> subst hb
  case transmit =>
    rw [illegalOperands_transmit_iff, Bool.not_eq_false] at h
    exact (inExec_exec he _).trans (by rw [h])
  case receive =>
    rw [illegalOperands_receive_iff, Bool.not_eq_false] at h
    exact (inExec_exec he _).trans (by rw [h])
  all_goals exact inExec_exec he _

/-- Settles O16: CONFIGURED is the check after the operands'. -/
theorem busCommandsNeedConfiguration : Obligations.BusCommandsNeedConfiguration := by
  intro i s l hbus he hlegal hconf
  obtain ⟨c, hb⟩ := exists_busCmdOf hbus l s
  obtain ⟨hend, hkeep⟩ := complete_ended s 0 (code := .notConfigured) (by decide)
  refine ⟨s.complete .notConfigured 0 0, ?_, hend, hkeep, rfl, rfl, rfl⟩
  rw [exec_first_legal he hb hlegal]
  simp [busStep, hconf]

/-! ### The address byte (40 R100) -/

/-- The mask of the address byte keeps bits 7:1 (40 R100). -/
theorem getLsbD_addrMask (k : Nat) : (0xFE#8).getLsbD k = decide (1 ≤ k ∧ k < 8) := by
  obtain hk | hk := Nat.lt_or_ge k 8
  · interval_cases k <;> rfl
  · rw [BitVec.getLsbD_of_ge _ _ hk]
    simp [Nat.not_lt.mpr hk]

/-- The direction is bit 0 and no other (40 R100). -/
theorem getLsbD_direction (r : Bool) (k : Nat) : (if r then 1#8 else 0#8).getLsbD k = (r && decide (k = 0)) := by
  cases r <;> simp [BitVec.getLsbD_one]

/-- Settles O17, bit by bit. -/
theorem addressByteCarriesDirection : Obligations.AddressByteCarriesDirection := by
  intro a8 r
  simp only [addrByte, BitVec.getLsbD_or, BitVec.getLsbD_and, getLsbD_addrMask, getLsbD_direction]
  refine ⟨by simp, fun k hk => ?_⟩
  obtain h8 | h8 := Nat.lt_or_ge k 8
  · simp [hk, h8, Nat.ne_of_gt hk]
  · rw [BitVec.getLsbD_of_ge a8 k h8]
    simp [Nat.ne_of_gt hk]

/-! ### The budgets (40 R91, R95) -/

/-- Only IS_DEVICE_READY's probe has a budget of its own (40 R91, 41 R123). -/
theorem probe_budget {i : Instr} {l : Latch} {s : State} {c : BusCmd} {pr : Probe} (hb : busCmdOf i l s = some c)
    (hp : c.probe = some pr) : pr.budget = if i = .isDeviceReady then l.arg2 else l.toFlag := by
  cases i <;> cases hb <;> cases hp <;> rfl

/-- The budget of START and ADDR, inside a probe and outside (40 R91, R95). -/
theorem phaseBudget_address {c : BusCmd} {l : Latch} {p : Pos} (h : p.phase = .start ∨ p.phase = .addr) :
    (∃ k acked pr, p.job = .probe k acked ∧ c.probe = some pr ∧ phaseBudget c l p = pr.budget) ∨
    ((∀ k acked pr, p.job = .probe k acked → c.probe ≠ some pr) ∧ phaseBudget c l p = l.toFlag) := by
  unfold phaseBudget
  obtain h | h := h <;> rw [h] <;> cases hj : p.job <;> cases hp : c.probe <;> simp

/-- Settles O18. -/
theorem budgetsFollowThePhase : Obligations.BudgetsFollowThePhase := by
  intro i l s c p hb
  refine ⟨fun h => by simp only [phaseBudget, h], fun h => by simp only [phaseBudget, h],
    fun h => by simp only [phaseBudget, h], fun h hi => ?_, fun h hi k acked hj => ?_⟩
  · obtain ⟨k, acked, pr, -, hp, hbud⟩ | ⟨-, hbud⟩ := phaseBudget_address (c := c) (l := l) h
    · rw [hbud, probe_budget hb hp, if_neg hi]
    · exact hbud
  · obtain ⟨k', acked', pr, -, hp, hbud⟩ | ⟨hno, -⟩ := phaseBudget_address (c := c) (l := l) h
    · rw [hbud, probe_budget hb hp, if_pos hi]
    · subst hi
      cases hb
      exact absurd rfl (hno k acked _ hj)

end Sys2Proof.Machine
end

section
/-! ## One poll of a phase, first or later, answered or not (40 R93, R95..R98, R102) -/

namespace Sys2Proof.Machine

/-! ### What a poll settles before it asks ENV (40 R96, R98) -/

/-- The tick the budget counts from (40 R96, R98). -/
theorem pollPos_since (c : BusCmd) (s : State) (p : Pos) :
    (pollPos Config.params c s p).since = some (budgetStart s p) := by
  have horigin := pollPos_origin Config.params c s p
  cases hs : p.since with
  | some tp => simp [pollPos, budgetStart, hs]
  | none =>
    simp only [pollPos, hs, openPhase, budgetStart] at horigin ⊢
    cases Config.params.timeoutOrigin with
    | phaseStart => simp
    | transactionStart => simpa using horigin

/-- A poll settles the two start ticks and the trial number, and keeps the rest of the position. -/
theorem pollPos_eq {i : Instr} {l : Latch} {s : State} {c : BusCmd} (hb : busCmdOf i l s = some c) (p : Pos) :
    pollPos Config.params c s p =
      { p with since := some (budgetStart s p), origin := xactStart s p, pending := pollPending i p } := by
  have hkeep : pollPos Config.params c s p = { p with
      since := (pollPos Config.params c s p).since, origin := (pollPos Config.params c s p).origin,
      pending := (pollPos Config.params c s p).pending } := by
    unfold pollPos
    split <;> rfl
  rw [hkeep, pollPos_since, pollPos_origin, pollPos_pending hb]

/-- The events of the action a phase emits (40 R95). -/
def actionEvents (s : State) (x : Xact) (ph : Phase) (i : Nat) : List BusEvent :=
  (phaseAction s x ph i).toList.map .act

/-- A first poll adds its phase's action to BH (40 R93). -/
theorem pollState_first {s : State} {p : Pos} (x : Xact) (hs : p.since = none) :
    pollState s x p = { s with bh := s.bh ++ actionEvents s x p.phase p.byte } := by
  simp only [pollState, hs, actionEvents]
  cases phaseAction s x p.phase p.byte with
  | none => simp
  | some a => rfl

/-- A later poll makes no action (40 R93). -/
theorem pollState_later {s : State} {p : Pos} (x : Xact) (hs : p.since ≠ none) : pollState s x p = s := by
  obtain ⟨tp, hs⟩ := Option.ne_none_iff_exists'.mp hs
  simp only [pollState, hs]

/-- The state once a poll took ENV's answer: BH may have grown by the action (40 R93, R96). -/
theorem pollState_takeAnswer (s : State) (x : Xact) (p : Pos) :
    (pollState s x p).takeAnswer = { s with
      bh := (pollState s x p).bh, answers := s.answers.tail
      draws := if s.answers = [] then s.draws + 1 else s.draws, polled := true } := by
  rw [pollState_eq]
  unfold State.takeAnswer
  cases s.answers <;> rfl

/-! ### A poll whose answer does not end the phase (40 R96, R97, R102) -/

/-- Strictly more than the budget elapsed: a timeout; else the wait goes on (40 R96). -/
theorem exec_unanswered {i : Instr} {s : State} {l : Latch} {p : Pos} {c : BusCmd} {x : Xact}
    (he : s.eng = .exec l (some p)) (hb : busCmdOf i l s = some c) (hx : InXact c p x)
    (hw : wanted x p.phase s.nextAnswer = false) :
    exec i s = .next
      (if phaseBudget c l p < s.tick - budgetStart s p
        then busFail c (pollPos Config.params c s p) (pollState s x p).takeAnswer
        else (pollState s x p).takeAnswer.at l (pollPos Config.params c s p)) := by
  have hbudget : phaseBudget c l (pollPos Config.params c s p) = phaseBudget c l p := by
    simp only [phaseBudget, pollPos_phase, pollPos_job]
  have helapsed : elapsed (pollState s x p) (pollPos Config.params c s p) = s.tick - budgetStart s p := by
    rw [elapsed, pollPos_since, pollState_eq]
    rfl
  rw [exec_busPoll he hb, busPoll_eq _ l s (inXact_current hx), pollPhase, hbudget, helapsed]
  simp only [pollPos_phase, pollState_nextAnswer, hw, Bool.false_eq_true, if_false]

/-- A failure clears DISP_INIT's DISP_READY and nothing else (41 R123). -/
theorem failureStatus_reportOf (i : Instr) (s : State) (st : Status) :
    failureStatus (reportOf i s) st = { st with dispReady := if i = .dispInit then false else st.dispReady } := by
  cases i <;> simp [reportOf, failureStatus]

/-- Settles O19: `exec_unanswered`, with the deadline as numbers. -/
theorem unansweredPollWaitsOrTimesOut : Obligations.UnansweredPollWaitsOrTimesOut := by
  intro i s l p c x he hb hx hw
  have hbh : p.since ≠ none → (pollState s x p).bh = s.bh := fun hs => by rw [pollState_later x hs]
  refine ⟨_, exec_unanswered he hb hx hw, ?_⟩
  rw [pollState_takeAnswer, pollPos_eq hb]
  by_cases hlate : phaseBudget c l p < s.tick - budgetStart s p
  · have hnum : ¬ (s.tick - budgetStart s p).toNat ≤ (phaseBudget c l p).toNat := Nat.not_le.mpr hlate
    rw [if_pos hlate, if_neg hnum, busFail, busCmdOf_report hb, failureStatus_reportOf]
    exact ⟨rfl, rfl, rfl, by constructor <;> rfl, ⟨rfl, rfl⟩, rfl, hbh, rfl, rfl, rfl, rfl, rfl, rfl, rfl⟩
  · have hnum : (s.tick - budgetStart s p).toNat ≤ (phaseBudget c l p).toNat := Nat.not_lt.mp hlate
    rw [if_neg hlate, if_pos hnum]
    exact ⟨rfl, rfl, rfl, by constructor <;> rfl, ⟨rfl, rfl⟩, rfl, hbh, rfl, rfl, rfl, rfl, rfl, rfl, rfl⟩

/-! ### The first poll, and the first engine step (40 R93) -/

/-- The history after a poll: the action of a first poll, and the answer if it ended the phase (log 9). -/
theorem exec_bh {i : Instr} {s t : State} {l : Latch} {p : Pos} {c : BusCmd} {x : Xact}
    (he : s.eng = .exec l (some p)) (hb : busCmdOf i l s = some c) (hx : InXact c p x) (ht : exec i s = .next t) :
    t.bh = (pollState s x p).bh ++ if wanted x p.phase s.nextAnswer then [.got s.nextAnswer] else [] := by
  cases hw : wanted x p.phase s.nextAnswer with
  | true =>
    rw [exec_answered he hb hx hw] at ht
    obtain rfl := Host.Outcome.next.inj ht
    simp [endPhase_bh, answeredState]
  | false =>
    rw [exec_unanswered he hb hx hw] at ht
    obtain rfl := Host.Outcome.next.inj ht
    split <;> simp [busFail]

/-- Every engine step of a bus command sets the mode, so the mode before it makes no difference: the position reaches
the step as an argument. -/
theorem endTransaction_setEng (c : BusCmd) (l : Latch) (p : Pos) (s : State) (e : Engine) :
    endTransaction c l p { s with eng := e } = endTransaction c l p s := by
  have hnext : ∀ i, nextItem c l p i { s with eng := e } = nextItem c l p i s := fun i => by
    unfold nextItem
    split <;> rfl
  unfold endTransaction
  split
  · exact hnext _
  · split
    · exact hnext _
    · split <;> rfl

theorem endPhase_setEng (c : BusCmd) (l : Latch) (x : Xact) (p : Pos) (a : Answer) (s : State) (e : Engine) :
    endPhase c l x p a { s with eng := e } = endPhase c l x p a s := by
  unfold endPhase
  cases p.phase with
  | busyWait | start | addr => rfl
  | data =>
    have hstage : (storeReceived x p.byte a { s with eng := e }).stage = (storeReceived x p.byte a s).stage := by
      unfold storeReceived
      split
      · unfold State.writeByte
        split <;> rfl
      · rfl
    dsimp only
    rw [storeReceived_eq, hstage, storeReceived_eq x p.byte a s]
    rfl
  | stop => exact endTransaction_setEng c l p s e

theorem pollPhase_setEng (c : BusCmd) (l : Latch) (x : Xact) (p : Pos) (s : State) (e : Engine) :
    pollPhase c l x p { s with eng := e } = pollPhase c l x p s := by
  have htake : ({ s with eng := e } : State).takeAnswer = { s.takeAnswer with eng := e } := by
    unfold State.takeAnswer
    cases s.answers <;> rfl
  unfold pollPhase
  rw [htake]
  dsimp only
  congr 1
  exact endPhase_setEng c l x p _ (s.takeAnswer.consume s.nextAnswer) e

theorem busPoll_setEng (P : Params) (c : BusCmd) (l : Latch) (p : Pos) (s : State) (e : Engine) :
    busPoll P c l p { s with eng := e } = busPoll P c l p s := by
  cases h : c.current p with
  | none =>
    simp only [busPoll, h]
    rfl
  | some x =>
    have hstate : pollState { s with eng := e } x p = { pollState s x p with eng := e } := by
      have hact : phaseAction { s with eng := e } x p.phase p.byte = phaseAction s x p.phase p.byte := rfl
      unfold pollState
      rw [hact]
      cases p.since with
      | some tp => rfl
      | none => cases phaseAction s x p.phase p.byte <;> rfl
    rw [busPoll_eq P l _ h, busPoll_eq P l s h, hstate, pollPhase_setEng]
    rfl

theorem busCmdOf_setEng (i : Instr) (l : Latch) (s : State) (e : Engine) :
    busCmdOf i l { s with eng := e } = busCmdOf i l s := by
  cases i <;> rfl

/-- At a position, `exec` of a bus command is one poll there, made in the state as it was (40 R93, R96). -/
theorem exec_at {i : Instr} {l : Latch} {s : State} {c : BusCmd} (hb : busCmdOf i l s = some c) (p : Pos) :
    exec i { s with eng := .exec l (some p) } = .next (busPoll Config.params c l p s) := by
  refine (exec_busPoll rfl ((busCmdOf_setEng i l s _).trans hb)).trans ?_
  exact congrArg Host.Outcome.next (busPoll_setEng Config.params c l p s _)

/-- The job of a command's first transaction: trial 1 of its probe, or item 0 (40 R108, 41 R122). -/
def firstJob (c : BusCmd) : Job := if c.probe = none then .item 0 else .probe 1 false

/-- A command that passed its checks makes its first poll in its first engine step (40 R93, log 7). -/
theorem exec_first_polls {i : Instr} {s : State} {l : Latch} {c : BusCmd} (he : s.eng = .exec l none)
    (hb : busCmdOf i l s = some c) (hlegal : ¬ illegalOperands i l) (hconf : s.status.configured = true)
    (htrials : ∀ pr, c.probe = some pr → 0 < pr.trials) :
    exec i s = .next (busPoll Config.params c l (Pos.first (firstJob c)) s) := by
  rw [exec_first_legal he hb hlegal]
  simp only [busStep, if_true, hconf, busBegin, firstJob]
  cases hp : c.probe with
  | none => rfl
  | some pr => simp [Nat.ne_of_gt (htrials pr hp)]

/-- Settles O21: the history is `exec_bh`, an unanswered poll leaves the position of `exec_unanswered`, and the first
engine step is `exec_first_polls`. -/
theorem firstPollEmitsThePhaseAction : Obligations.FirstPollEmitsThePhaseAction := by
  refine ⟨fun i s l p c x he hb hx hs => ?_, fun i s l c he hb hlegal hconf htrials => ?_⟩
  · obtain ⟨t, ht⟩ := exec_answers i he
    have hbh := exec_bh he hb hx ht
    rw [pollState_first x hs] at hbh
    refine ⟨t, actionEvents s x p.phase p.byte, _, ht, hbh, rfl, fun q hgot hq => ?_, ?_⟩
    · have hw : wanted x p.phase s.nextAnswer = false := by
        by_contra hw
        simp [hw] at hgot
      rw [exec_unanswered he hb hx hw, pollPos_eq hb] at ht
      obtain rfl := Host.Outcome.next.inj ht
      split at hq
      · cases hq
      · cases hq
        exact ⟨by simp only [budgetStart, hs], rfl⟩
    · cases hph : p.phase with
      | busyWait | start | stop => rfl
      | addr => cases x <;> rfl
      | data => rcases x with a8 | ⟨a8, _ | _ | _⟩ | ⟨a8, off, n⟩ <;> rfl
  · rw [exec_first_polls he hb hlegal hconf htrials]
    exact (exec_at hb (Pos.first (firstJob c))).symm

end Sys2Proof.Machine
end

section
/-! ## TRANSMIT, RECEIVE and the presence probe, phase by phase (40 R106..R108) -/

namespace Sys2Proof.Machine

/-! ### An answered DATA phase and an answered STOP (40 R99, R101, R108) -/

/-- An answered DATA phase stores the byte a read got, counts it, and goes on (40 R99, R101). -/
theorem exec_dataByte {i : Instr} {s : State} {l : Latch} {p : Pos} {c : BusCmd} {x : Xact}
    (he : s.eng = .exec l (some p)) (hb : busCmdOf i l s = some c) (hx : InXact c p x) (hph : p.phase = .data)
    (hw : wanted x .data s.nextAnswer = true) :
    ∃ q, exec i s = .next ((storeReceived x p.byte s.nextAnswer (answeredState s x p)).at l q) ∧
      q.pending = pendingBytes c.report (p.byte + 1) p.pending := by
  have hpending : (pollPos Config.params c s p).pending = p.pending := by
    rw [pollPos_pending hb, pollPending, hph]
    cases p.since <;> rfl
  rw [← hph] at hw
  rw [exec_answered he hb hx hw]
  simp only [endPhase, pollPos_phase, pollPos_byte, hph, hpending]
  refine ⟨_, rfl, ?_⟩
  split <;> rfl

/-- An answered STOP ends the transaction (40 R99, R101, R108). -/
theorem exec_stop {i : Instr} {s : State} {l : Latch} {p : Pos} {c : BusCmd} {x : Xact}
    (he : s.eng = .exec l (some p)) (hb : busCmdOf i l s = some c) (hx : InXact c p x) (hph : p.phase = .stop)
    (hans : s.nextAnswer = .stopDone) :
    ∃ since, exec i s = .next (endTransaction c l { p with since := since } (answeredState s x p)) := by
  have hw : wanted x p.phase s.nextAnswer = true := by rw [hph, hans]; rfl
  refine ⟨(pollPos Config.params c s p).since, ?_⟩
  rw [exec_answered he hb hx hw, pollPos_stop _ c s hph]
  simp only [endPhase, hph]

/-- What a poll that stores no byte changes: ENV's answer is taken and BH may grow (40 R96). -/
structure PolledOnly (s u : State) : Prop where
  polled : Polled s u
  stage : u.stage = s.stage

theorem polledOnly_answeredState (s : State) (x : Xact) (p : Pos) : PolledOnly s (answeredState s x p) := by
  refine ⟨((polled_pollState s x p).trans (polled_takeAnswer _)).trans (polled_consume _ _), ?_⟩
  rw [answeredState_eq]

/-- The STOP of the last transaction of the list, or a position past it, completes the command (40 R106, 41 R122, log
19). -/
theorem exec_lastStop {i : Instr} {s : State} {l : Latch} {p : Pos} {c : BusCmd} {k : Nat}
    (he : s.eng = .exec l (some p)) (hb : busCmdOf i l s = some c) (hj : p.job = .item k)
    (hlast : c.items.length ≤ k + 1) (hph : p.phase = .stop) (hans : s.nextAnswer = .stopDone) :
    ∃ u, PolledOnly s u ∧ exec i s = .next (busSucceed c p.pending u) := by
  cases hx : c.items[k]? with
  | none =>
    refine ⟨s, ⟨.refl s, rfl⟩, ?_⟩
    rw [exec_busPoll he hb]
    simp only [busPoll, BusCmd.current, hj, hx]
  | some x =>
    have hin : InXact c p x := by simpa only [InXact, hj] using hx
    obtain ⟨since, h⟩ := exec_stop he hb hin hph hans
    refine ⟨_, polledOnly_answeredState s x p, ?_⟩
    rw [h]
    simp only [endTransaction, hj, nextItem, List.getElem?_eq_none hlast]

/-- What a completion after such a poll keeps, when it writes no status bit but ERR and BUSY (40 R94). -/
theorem PolledOnly.complete {s u : State} (h : PolledOnly s u) {code : ErrCode} (r : Word) (hc : code ≠ .busTimeout) :
    Ended s (u.complete code r 0) code r ∧ KeepsBits s (u.complete code r 0) ∧ (u.complete code r 0).fb = s.fb ∧
      (u.complete code r 0).stage = s.stage ∧ (u.complete code r 0).cursor = s.cursor := by
  obtain ⟨hpolled, hstage⟩ := h
  obtain ⟨hend, -⟩ := complete_ended u r hc
  refine ⟨?_, ?_, ?_, hstage, hpolled.cursor⟩
  · exact ⟨hend.err, hend.busy, hend.eng, hend.result, hend.info.trans hpolled.errInfo⟩
  · rw [hpolled.eq]
    constructor <;> rfl
  · rw [hpolled.eq]
    rfl

/-! ### TRANSMIT and RECEIVE (40 R106, R107) -/

/-- Settles O23: the STOP is `exec_lastStop`, a DATA byte is `exec_dataByte`. -/
theorem transfersCountTheirBytes : Obligations.TransfersCountTheirBytes := by
  refine ⟨fun l s => ⟨rfl, rfl⟩, fun i s l p hi he => ⟨fun k hj hph hans => ?_, ?_, ?_⟩⟩
  · have hdone : ∃ u, PolledOnly s u ∧ exec i s = .next (u.complete .ok p.pending 0) := by
      obtain rfl | rfl := hi
      · exact exec_lastStop (c := transmitCmd l) he rfl hj (Nat.succ_le_succ (Nat.zero_le k)) hph hans
      · exact exec_lastStop (c := receiveCmd l) he rfl hj (Nat.succ_le_succ (Nat.zero_le k)) hph hans
    obtain ⟨u, hu, hx⟩ := hdone
    exact ⟨_, hx, hu.complete p.pending (by decide)⟩
  · rintro rfl hj hph hans
    have hin : InXact (transmitCmd l) p (.write l.addr8 (.stage l.off2 l.count)) := by simp [InXact, hj, transmitCmd]
    obtain ⟨q, hx, hq⟩ := exec_dataByte (i := .transmit) he rfl hin hph (by rw [hans]; rfl)
    refine ⟨_, q, hx, rfl, hq.trans (bytesResult_eq _), ?_⟩
    rw [answeredState_eq]
    exact ⟨rfl, rfl⟩
  · rintro v rfl hj hph hans hfit
    have hin : InXact (receiveCmd l) p (.read l.addr8 l.off2 l.count) := by simp [InXact, hj, receiveCmd]
    obtain ⟨q, hx, hq⟩ := exec_dataByte (i := .receive) he rfl hin hph (by rw [hans]; rfl)
    have hram : ∀ a, (answeredState s (.read l.addr8 l.off2 l.count) p).readByte .stage a = s.readByte .stage a :=
      fun a => by rw [answeredState_eq]; rfl
    refine ⟨_, q, hx, rfl, hq.trans (bytesResult_eq _), ?_⟩
    rw [hans]
    refine ⟨State.readByte_writeByte_self _ .stage v hfit, fun a ha => ?_, ?_⟩
    · exact (State.readByte_writeByte_ne _ .stage v ha).trans (hram a)
    · refine (State.writeByte_stage_fb ..).trans ?_
      rw [answeredState_eq]

/-! ### IS_DEVICE_READY (40 R108) -/

/-- A probe of no trial is not ready at the first engine step (40 R108). -/
theorem exec_isDeviceReady_noTrial {s : State} {l : Latch} (he : s.eng = .exec l none)
    (hconf : s.status.configured = true) (htrials : (l.arg1.extractLsb' 0 16).toNat = 0) :
    exec .isDeviceReady s = .next (s.complete .deviceNotReady 0 0) := by
  have hl : l.trials = 0 := htrials
  rw [exec_first_legal (c := isDeviceReadyCmd l) he rfl id]
  simp [busStep, hconf, busBegin, isDeviceReadyCmd, hl, busNotReady, failureStatus]

/-- Where the STOP of a trial leads (40 R108): success, the next trial, or no device ready. -/
theorem endTransaction_trial {l : Latch} {p : Pos} {k : Nat} {acked : Bool} (hj : p.job = .probe k acked) (u : State) :
    endTransaction (isDeviceReadyCmd l) l p u =
      if acked then u.complete .ok (p.pending ||| 1#32) 0
      else if k < (l.arg1.extractLsb' 0 16).toNat then
        u.at l { p with job := .probe (k + 1) false, phase := .start, since := none, xact := p.xact + 1, byte := 0 }
      else u.complete .deviceNotReady p.pending 0 := by
  simp only [endTransaction, hj]
  rfl

/-- Settles O24: the phases before STOP lead on as in O20, and the STOP is `endTransaction_trial`. -/
theorem presenceProbeCountsItsTrials : Obligations.PresenceProbeCountsItsTrials := by
  intro s l
  have hin : ∀ {p : Pos} {k : Nat} {acked : Bool}, p.job = .probe k acked →
      InXact (isDeviceReadyCmd l) p (.probe l.addr8) := fun hj => by simp [InXact, hj, isDeviceReadyCmd]
  obtain ⟨-, hnext, -⟩ := answeredPhaseLeadsToTheNext
  refine ⟨rfl, fun he hconf htrials => ?_, fun p k acked he hj hph hans => ?_, fun p k acked he hj hph hs hans => ?_,
    fun p k acked he hj hph hans => ?_⟩
  · obtain ⟨hend, hkeep⟩ := complete_ended s 0 (code := .deviceNotReady) (by decide)
    exact ⟨_, exec_isDeviceReady_noTrial he hconf htrials, hend, hkeep, rfl, rfl, rfl⟩
  · obtain ⟨since, hx⟩ := exec_stop (i := .isDeviceReady) he rfl (hin hj) hph hans
    have hu := polledOnly_answeredState s (.probe l.addr8) p
    rw [endTransaction_trial (p := { p with since := since }) hj] at hx
    refine ⟨_, hx, ?_⟩
    cases acked with
    | true =>
      obtain ⟨hend, hbits, hfb, hstage, -⟩ := hu.complete (code := .ok) (p.pending ||| 1#32) (by decide)
      exact ⟨hbits, hfb, hstage, hend⟩
    | false =>
      rw [if_neg Bool.false_ne_true, if_neg Bool.false_ne_true]
      split
      · have hst := hu.polled.status
        have hfb : (answeredState s (.probe l.addr8) p).fb = s.fb := by rw [hu.polled.eq]
        exact ⟨by constructor <;> simp [hst], hfb, hu.stage, _, rfl, rfl, rfl, rfl, rfl, hst⟩
      · obtain ⟨hend, hbits, hfb, hstage, -⟩ := hu.complete (code := .deviceNotReady) p.pending (by decide)
        exact ⟨hbits, hfb, hstage, hend⟩
  · obtain ⟨t, q, hx, heng, -, -, -, -, -, -, -, hq⟩ :=
      hnext .isDeviceReady s l p _ _ he rfl (hin hj) (by rw [hph, hans]; rfl) (by rw [hph]; decide)
    rw [hph] at hq
    obtain ⟨hphase, hjob, -, hpending⟩ := hq
    refine ⟨t, q, hx, heng, hphase, hjob, ?_⟩
    simp [hpending, pollPending, hs, hph, hj]
  · have hw : wanted (.probe l.addr8) p.phase s.nextAnswer = true := by
      obtain hans | hans := hans <;> rw [hph, hans] <;> rfl
    obtain ⟨t, q, hx, heng, -, -, -, -, -, -, -, hq⟩ :=
      hnext .isDeviceReady s l p _ _ he rfl (hin hj) hw (by rw [hph]; decide)
    rw [hph] at hq
    obtain ⟨hphase, -, -, hjob⟩ := hq
    rw [hj] at hjob
    exact ⟨t, q, hx, heng, hphase, hjob⟩

end Sys2Proof.Machine
end

section
/-! ## A bus command run whole under a prompt ENV (40 R99, R101, R106, R107, 41 R122, 95 section 0)

Every poll is a first poll and is answered, so the engine steps through the positions of a transaction in order. The
state in between is `State.mid`; a transaction is `run_xact`, for writes and reads alike; a list of transactions is
an induction on the list. -/

namespace Sys2Proof.Machine

/-! ### Runs -/

/-- A run goes on from the state its first step answers. -/
theorem run_step {s t : State} (h : step s = .next t) (n : Nat) :
    Host.Core.run core (n + 1) s = Host.Core.run core n t := by
  have hcore : core.step s = .next t := h
  simp only [Host.Core.run, hcore]

/-- A run in two parts. -/
theorem run_add {m : Nat} {s t : State} (h : Host.Core.run core m s = .next t) (n : Nat) :
    Host.Core.run core (m + n) s = Host.Core.run core n t := by
  induction m generalizing s with
  | zero =>
    obtain rfl := Host.Outcome.next.inj h
    rw [Nat.zero_add]
  | succ m ih =>
    obtain ⟨u, hu⟩ := everyStepAnswersANextState.1 s
    rw [run_step hu] at h
    rw [Nat.succ_add, run_step hu]
    exact ih h

/-! ### The state in the middle of a run -/

/-- `s` with the command at position `p`, `h` added to BH, and `es` and `as` still to come. -/
def State.mid (s : State) (l : Latch) (p : Pos) (h : List BusEvent) (es : List Event) (as : List Answer) : State :=
  { s with eng := .exec l (some p), bh := s.bh ++ h, schedule := es, answers := as, polled := true }

theorem State.mid_mid (s : State) (l : Latch) (p q : Pos) (h h' : List BusEvent) (es es' : List Event)
    (as as' : List Answer) : (s.mid l p h es as).mid l q h' es' as' = s.mid l q (h ++ h') es' as' := by
  simp [State.mid]

/-- A received byte reaches STAGE in the middle of a run as it would at its start. -/
theorem storeReceived_mid (x : Xact) (j : Nat) (a : Answer) (s : State) (l : Latch) (p : Pos) (h : List BusEvent)
    (es : List Event) (as : List Answer) :
    storeReceived x j a (s.mid l p h es as) = (storeReceived x j a s).mid l p h es as := by
  unfold storeReceived
  split
  · unfold State.writeByte
    split <;> rfl
  · rfl

/-- Which command a bus command's run executes. -/
structure Runs (i : Instr) (l : Latch) (c : BusCmd) (s : State) : Prop where
  decoded : decode l.cmd = .ok i
  cmd : busCmdOf i l s = some c

/-- The command depends on STATUS only, by TOGGLE_INVERT (41 R131). -/
theorem busCmdOf_congr (i : Instr) (l : Latch) {s t : State} (h : t.status = s.status) :
    busCmdOf i l t = busCmdOf i l s := by
  cases i <;> simp only [busCmdOf, toggleInvertCmd, h]

theorem Runs.congr {i : Instr} {l : Latch} {c : BusCmd} {s t : State} (hr : Runs i l c s) (h : t.status = s.status) :
    Runs i l c t :=
  ⟨hr.decoded, (busCmdOf_congr i l h).trans hr.cmd⟩

/-! ### One answered first poll -/

/-- A first poll that the listed answer ends (40 R93, R96). -/
theorem busPoll_answered {c : BusCmd} {l : Latch} {p : Pos} {x : Xact} {s : State} {a : Answer} {as : List Answer}
    (ha : s.answers = a :: as) (hx : c.current p = some x) (hs : p.since = none) (hw : wanted x p.phase a = true) :
    busPoll Config.params c l p s = endPhase c l x (pollPos Config.params c s p) a
      (s.mid l p (actionEvents s x p.phase p.byte ++ [.got a]) s.schedule as) := by
  have hnext : s.nextAnswer = a := by rw [State.nextAnswer, ha]
  have hmid : s.mid l p (actionEvents s x p.phase p.byte ++ [.got a]) s.schedule as =
      { (pollState s x p).takeAnswer.consume a with eng := .exec l (some p) } := by
    rw [pollState_takeAnswer, pollState_first x hs]
    simp [State.mid, State.consume, ha]
  rw [hmid, endPhase_setEng, busPoll_eq _ l s hx, pollPhase]
  simp only [pollPos_phase, pollState_nextAnswer, hnext, hw, if_true]

/-- One step in the middle of a run (40 R93). -/
theorem step_mid {i : Instr} {l : Latch} {c : BusCmd} {s : State} {p : Pos} {x : Xact} {a : Answer}
    {h : List BusEvent} {es : List Event} {as : List Answer} (hr : Runs i l c s) (hx : c.current p = some x)
    (hs : p.since = none) (hw : wanted x p.phase a = true) :
    step (s.mid l p h (.engine :: es) (a :: as)) = .next (endPhase c l x (pollPos Config.params c s p) a
      (s.mid l p (h ++ (actionEvents s x p.phase p.byte ++ [.got a])) es as)) := by
  have hcmd : Runs i l c (s.mid l p h es (a :: as)) := hr.congr rfl
  refine (step_of_engine rfl rfl hr.decoded).trans ((exec_busPoll rfl hcmd.cmd).trans ?_)
  refine congrArg Host.Outcome.next ((busPoll_answered rfl hx hs hw).trans ?_)
  rw [State.mid_mid]
  rfl

/-- The position of item `k` before a phase's first poll. -/
def itemPos (k : Nat) (ph : Phase) (origin : Word) (xact byte : Nat) (pending : Word) : Pos :=
  { job := .item k, phase := ph, since := none, origin := origin, xact := xact, byte := byte, pending := pending }

/-- The first step of a command without a probe is the first step of its item 0 (log 7). -/
theorem step_first {i : Instr} {l : Latch} {c : BusCmd} {s : State} {x : Xact} {es : List Event} {as : List Answer}
    (hr : Runs i l c s) (he : s.eng = .exec l none) (hprobe : c.probe = none) (hx : c.items[0]? = some x)
    (hlegal : ¬ illegalOperands i l) (hconf : s.status.configured = true) (hes : s.schedule = .engine :: es)
    (has : s.answers = .idle :: as) :
    step s = step (s.mid l (itemPos 0 .busyWait 0 0 0 0) [] s.schedule s.answers) := by
  have hcmd : Runs i l c { s with schedule := es } := hr.congr rfl
  have hcur : c.current (itemPos 0 .busyWait 0 0 0 0) = some x := hx
  have hfirst := exec_first_polls (s := { s with schedule := es }) he hcmd.cmd hlegal hconf (by simp [hprobe])
  rw [firstJob, if_pos hprobe] at hfirst
  rw [hes, has, step_mid hr hcur rfl rfl, step_of_engine hes he hr.decoded, hfirst]
  exact congrArg Host.Outcome.next (busPoll_answered (s := { s with schedule := es }) has hcur rfl rfl)

/-- A run from acceptance is a run from the first poll of item 0 (log 7). -/
theorem run_first {i : Instr} {l : Latch} {c : BusCmd} {s : State} {x : Xact} {m : Nat} {es : List Event}
    {answers as : List Answer} (hr : Runs i l c s) (he : s.eng = .exec l none) (hprobe : c.probe = none)
    (hx : c.items[0]? = some x) (hlegal : ¬ illegalOperands i l) (hconf : s.status.configured = true) (hm : 0 < m)
    (hes : s.schedule = List.replicate m .engine ++ es) (has : s.answers = answers) (hidle : answers = .idle :: as) :
    Host.Core.run core m s = Host.Core.run core m
      (s.mid l (itemPos 0 .busyWait 0 0 0 0) [] (List.replicate m .engine ++ es) answers) := by
  obtain ⟨m, rfl⟩ := Nat.exists_eq_add_one.mpr hm
  obtain ⟨t, ht⟩ := everyStepAnswersANextState.1 s
  have hfirst := (step_first hr he hprobe hx hlegal hconf hes (has.trans hidle)).symm.trans ht
  rw [hes, has] at hfirst
  exact (run_step ht m).trans (run_step hfirst m).symm

/-! ### The phases of a transaction of the list (40 R99, R101) -/

/-- The pending result before payload byte `j`, when the transaction began with `w` (40 R106, R107). -/
def pendingAt (r : Report) (w : Word) (j : Nat) : Word := if j = 0 then w else pendingBytes r j w

theorem pendingAt_succ (r : Report) (w : Word) (j : Nat) :
    pendingAt r w (j + 1) = pendingBytes r (j + 1) (pendingAt r w j) := by
  unfold pendingAt
  cases r <;> simp [pendingBytes]

/-- The position before payload byte `j` of a transaction of `len` bytes: its DATA phase, or STOP when all are done. -/
def dataPos (r : Report) (len k : Nat) (origin : Word) (xact : Nat) (w : Word) (j : Nat) : Pos :=
  if j < len then itemPos k .data origin xact j (pendingAt r w j)
  else itemPos k .stop origin xact (j - 1) (pendingAt r w j)

theorem dataPos_end (r : Report) (len k : Nat) (origin : Word) (xact : Nat) (w : Word) :
    dataPos r len k origin xact w len = itemPos k .stop origin xact (len - 1) (pendingAt r w len) :=
  if_neg (Nat.lt_irrefl len)

section
variable {i : Instr} {l : Latch} {c : BusCmd} {s : State} {x : Xact} {k n : Nat} {o w : Word} {h : List BusEvent}
  {es : List Event} {as : List Answer}

theorem step_busyWait (hr : Runs i l c s) (hx : c.items[k]? = some x) :
    step (s.mid l (itemPos k .busyWait o n 0 w) h (.engine :: es) (.idle :: as)) =
      .next (s.mid l (itemPos k .start s.tick n 0 w) (h ++ [.got .idle]) es as) :=
  step_mid hr (p := itemPos k .busyWait o n 0 w) hx rfl rfl

theorem step_start (hr : Runs i l c s) (hx : c.items[k]? = some x) :
    step (s.mid l (itemPos k .start o n 0 w) h (.engine :: es) (.startDone :: as)) =
      .next (s.mid l (itemPos k .addr o n 0 w) (h ++ [.act .start, .got .startDone]) es as) :=
  step_mid hr (p := itemPos k .start o n 0 w) hx rfl rfl

theorem step_addr (hr : Runs i l c s) (hx : c.items[k]? = some x) :
    step (s.mid l (itemPos k .addr o n 0 w) h (.engine :: es) (.ack :: as)) =
      .next (s.mid l (dataPos c.report x.length k o n w 0) (h ++ [.act (.addr x.addr), .got .ack]) es as) := by
  rw [step_mid hr (p := itemPos k .addr o n 0 w) hx rfl rfl]
  refine congrArg Host.Outcome.next ?_
  simp only [endPhase, itemPos, pollPos_phase, dataPos]
  cases x.length <;> rfl

/-- The DATA phase of byte `j` (40 R99, R101). -/
theorem step_data {j : Nat} {a : Answer} (hr : Runs i l c s) (hx : c.items[k]? = some x) (hj : j < x.length)
    (hw : wanted x .data a = true) :
    step (s.mid l (dataPos c.report x.length k o n w j) h (.engine :: es) (a :: as)) =
      .next ((storeReceived x j a s).mid l (dataPos c.report x.length k o n w (j + 1))
        (h ++ (actionEvents s x .data j ++ [.got a])) es as) := by
  rw [dataPos, if_pos hj, step_mid hr (p := itemPos k .data o n j (pendingAt c.report w j)) hx rfl hw]
  refine congrArg Host.Outcome.next ?_
  simp only [endPhase, itemPos, pollPos_phase, pollPos_byte, storeReceived_mid, dataPos, pendingAt_succ]
  split <;> rfl

theorem step_stop {byte : Nat} (hr : Runs i l c s) (hx : c.items[k]? = some x) :
    step (s.mid l (itemPos k .stop o n byte w) h (.engine :: es) (.stopDone :: as)) =
      .next (nextItem c l (itemPos k .stop o n byte w) (k + 1)
        (s.mid l (itemPos k .stop o n byte w) (h ++ [.act .stop, .got .stopDone]) es as)) :=
  step_mid hr (p := itemPos k .stop o n byte w) hx rfl rfl

end

/-! ### A whole transaction (40 R99, R101) -/

/-- STAGE after the DATA phases from byte `j` on: a read stores what ENV answers (40 R101). -/
def received (x : Xact) : Nat → List Answer → State → State
  | _, [], s => s
  | j, a :: ds, s => received x (j + 1) ds (storeReceived x j a s)

/-- What the DATA phases from byte `j` on add to BH (10 R37, 40 R95). -/
def dataEvents (s : State) (x : Xact) : Nat → List Answer → List BusEvent
  | _, [] => []
  | j, a :: ds => actionEvents s x .data j ++ [.got a] ++ dataEvents s x (j + 1) ds

/-- A byte received does not change what the transaction sends: a write receives none, a read sends none. -/
theorem actionEvents_storeReceived (s : State) (x : Xact) (ph : Phase) (i j : Nat) (a : Answer) :
    actionEvents (storeReceived x j a s) x ph i = actionEvents s x ph i := by
  cases x <;> rfl

theorem dataEvents_storeReceived (s : State) (x : Xact) (i j : Nat) (a : Answer) (ds : List Answer) :
    dataEvents (storeReceived x i a s) x j ds = dataEvents s x j ds := by
  induction ds generalizing j with
  | nil => rfl
  | cons b ds ih => rw [dataEvents, ih, actionEvents_storeReceived, dataEvents]

theorem polled_received (x : Xact) (j : Nat) (ds : List Answer) (s : State) : Polled s (received x j ds s) := by
  induction ds generalizing j s with
  | nil => exact .refl s
  | cons a ds ih => exact (polled_storeReceived x j a s).trans (ih (j + 1) _)

/-- What a transaction adds to BH when its DATA phases are answered by `ds` (40 R99, R101). -/
def xactEvents (s : State) (x : Xact) (ds : List Answer) : List BusEvent :=
  .got .idle :: .act .start :: .got .startDone :: .act (.addr x.addr) :: .got .ack ::
    (dataEvents s x 0 ds ++ [.act .stop, .got .stopDone])

section
variable {i : Instr} {l : Latch} {c : BusCmd} {x : Xact} {k n : Nat} {o w : Word} {es : List Event} {as : List Answer}

/-- The DATA phases from byte `j` to the last, one step each. -/
theorem run_data (hx : c.items[k]? = some x) (ds : List Answer) (hw : ∀ a ∈ ds, wanted x .data a = true) {s : State}
    {j : Nat} {h : List BusEvent} (hr : Runs i l c s) (hlen : j + ds.length = x.length) :
    Host.Core.run core ds.length (s.mid l (dataPos c.report x.length k o n w j) h
        (List.replicate ds.length .engine ++ es) (ds ++ as)) =
      .next ((received x j ds s).mid l (dataPos c.report x.length k o n w x.length) (h ++ dataEvents s x j ds)
        es as) := by
  induction ds generalizing s j h with
  | nil =>
    obtain rfl : j = x.length := hlen
    simp [Host.Core.run, received, dataEvents]
  | cons a ds ih =>
    obtain ⟨ha, hds⟩ := List.forall_mem_cons.mp hw
    rw [List.length_cons] at hlen
    have hr' : Runs i l c (storeReceived x j a s) := hr.congr (polled_storeReceived x j a s).status
    refine (run_step (step_data hr hx (by omega) ha) _).trans ((ih hds hr' (by omega)).trans ?_)
    rw [dataEvents_storeReceived, List.append_assoc]
    rfl

/-- A transaction from its BUSY_WAIT to its STOP: `ds` answers its DATA phases. -/
theorem run_xact (hx : c.items[k]? = some x) (ds : List Answer) (hw : ∀ a ∈ ds, wanted x .data a = true) {s : State}
    {h : List BusEvent} (hr : Runs i l c s) (hlen : ds.length = x.length) :
    Host.Core.run core (ds.length + 4) (s.mid l (itemPos k .busyWait o n 0 w) h
        (List.replicate (ds.length + 4) .engine ++ es) (.idle :: .startDone :: .ack :: (ds ++ .stopDone :: as))) =
      .next (nextItem c l (dataPos c.report x.length k s.tick n w x.length) (k + 1)
        ((received x 0 ds s).mid l (dataPos c.report x.length k s.tick n w x.length) (h ++ xactEvents s x ds)
          es as)) := by
  have hsched : List.replicate (ds.length + 4) Event.engine ++ es =
      .engine :: .engine :: .engine :: (List.replicate ds.length .engine ++ .engine :: es) := by
    rw [← List.singleton_append (l := es), ← List.append_assoc, ← List.replicate_succ']
    rfl
  have hr' : Runs i l c (received x 0 ds s) := hr.congr (polled_received x 0 ds s).status
  rw [hsched, run_step (step_busyWait hr hx), run_step (step_start hr hx), run_step (step_addr hr hx),
    run_add (run_data hx ds hw hr (by omega)), dataPos_end, run_step (step_stop hr' hx)]
  simp [Host.Core.run, xactEvents]

end

/-! ### A list of write transactions (41 R122) -/

theorem received_write (a8 : Byte) (pl : Payload) (j : Nat) (ds : List Answer) (s : State) :
    received (.write a8 pl) j ds s = s := by
  induction ds generalizing j with
  | nil => rfl
  | cons a ds ih => exact ih (j + 1)

theorem dataEvents_write (s : State) (a8 : Byte) (pl : Payload) (j n : Nat) :
    dataEvents s (.write a8 pl) j (List.replicate n .byteDone) =
      (List.range' j n).flatMap fun m => [.act (.tx (pl.byteAt s m)), .got .byteDone] := by
  induction n generalizing j with
  | zero => rfl
  | succ n ih =>
    rw [List.replicate_succ, dataEvents, ih, List.range'_succ, List.flatMap_cons]
    rfl

/-- A write transaction adds its own history (40 R99, 95 section 0). -/
theorem xactEvents_write (s : State) (a8 : Byte) (pl : Payload) :
    xactEvents s (.write a8 pl) (List.replicate pl.length .byteDone) = xactHistory s (.write a8 pl) := by
  rw [xactEvents, dataEvents_write, xactHistory, writeHistory, List.range_eq_range']
  rfl

/-- A write transaction under a prompt ENV (95 section 0). -/
theorem run_write {i : Instr} {l : Latch} {c : BusCmd} {x : Xact} {k n : Nat} {o w : Word} {es : List Event}
    {as : List Answer} {s : State} {h : List BusEvent} (hr : Runs i l c s) (hx : c.items[k]? = some x)
    (hwrite : ∃ a8 pl, x = .write a8 pl) :
    Host.Core.run core (xactPolls x) (s.mid l (itemPos k .busyWait o n 0 w) h
        (List.replicate (xactPolls x) .engine ++ es) (promptAnswers x ++ as)) =
      .next (nextItem c l (dataPos c.report x.length k s.tick n w x.length) (k + 1)
        (s.mid l (dataPos c.report x.length k s.tick n w x.length) (h ++ xactHistory s x) es as)) := by
  obtain ⟨a8, pl, rfl⟩ := hwrite
  have hdone : ∀ a ∈ List.replicate pl.length Answer.byteDone, wanted (.write a8 pl) .data a = true := fun a ha => by
    rw [List.eq_of_mem_replicate ha]
    rfl
  have hrun := run_xact (h := h) (n := n) (o := o) (w := w) (es := es) (as := as) hx _ hdone hr List.length_replicate
  rw [xactEvents_write, received_write, List.length_replicate] at hrun
  rw [← hrun, promptAnswers]
  simp [xactPolls, Xact.length]

/-- The pending result after the transactions `xs` (40 R106, R107). -/
def pendingAfter (r : Report) (xs : List Xact) (w : Word) : Word := xs.foldl (fun w x => pendingAt r w x.length) w

/-- What is left of the list from item `k` on, then the command's success (41 R122). -/
theorem run_writes {i : Instr} {l : Latch} {c : BusCmd} {es : List Event} {as : List Answer} {s : State}
    (hr : Runs i l c s) (xs : List Xact) (hwrite : ∀ x ∈ xs, ∃ a8 pl, x = .write a8 pl) {k : Nat} {p q : Pos}
    {h : List BusEvent} (hitems : c.items.drop k = xs) :
    Host.Core.run core (xs.map xactPolls).sum (nextItem c l p k (s.mid l q h
        (List.replicate (xs.map xactPolls).sum .engine ++ es) (xs.flatMap promptAnswers ++ as))) =
      .next (busSucceed c (pendingAfter c.report xs p.pending) (s.mid l q (h ++ xs.flatMap (xactHistory s)) es as)) := by
  induction xs generalizing k p q h with
  | nil =>
    have hend : c.items[k]? = none := List.getElem?_eq_none (List.drop_eq_nil_iff.mp hitems)
    simp only [nextItem, hend, List.flatMap_nil, List.append_nil]
    rfl
  | cons x xs ih =>
    obtain ⟨hx, hxs⟩ := List.forall_mem_cons.mp hwrite
    have hget : c.items[k]? = some x := by rw [← Nat.add_zero k, ← List.getElem?_drop, hitems]; rfl
    have hdrop : c.items.drop (k + 1) = xs := by rw [← List.tail_drop, hitems, List.tail_cons]
    have hgo : ∀ es as, nextItem c l p k (s.mid l q h es as) =
        s.mid l (itemPos k .busyWait p.origin (p.xact + 1) 0 p.pending) h es as := fun es as => by
      simp only [nextItem, hget]
      rfl
    simp only [List.map_cons, List.sum_cons, List.flatMap_cons, ← List.replicate_append_replicate, List.append_assoc]
    rw [hgo, run_add (run_write hr hget hx), ih hxs hdrop, dataPos_end, List.append_assoc]
    rfl

/-! ### A read transaction (40 R101) -/

/-- A read leaves the bytes it got in STAGE from its offset on (40 R101). -/
theorem received_read (a8 : Byte) (off n j : Nat) (vs : List Byte) (s : State) :
    received (.read a8 off n) j (vs.map .byteIn) s = s.writeBytes .stage (off + j) vs := by
  induction vs generalizing j s with
  | nil => rfl
  | cons v vs ih => exact ih (j + 1) _

theorem dataEvents_read (s : State) (a8 : Byte) (off n j : Nat) (vs : List Byte) :
    dataEvents s (.read a8 off n) j (vs.map .byteIn) =
      (vs.zipIdx j).flatMap fun v => [.act (.rx (decide (v.2 + 1 < n))), .got (.byteIn v.1)] := by
  induction vs generalizing j with
  | nil => rfl
  | cons v vs ih =>
    rw [List.map_cons, dataEvents, ih, List.zipIdx_cons, List.flatMap_cons]
    rfl

/-- A read transaction adds its own history (40 R101, 95 section 0). -/
theorem xactEvents_read (s : State) (a8 : Byte) (off : Nat) {n : Nat} {vs : List Byte} (hlen : vs.length = n) :
    xactEvents s (.read a8 off n) (vs.map .byteIn) = readHistory a8 vs := by
  subst hlen
  rw [xactEvents, dataEvents_read, readHistory]
  rfl

/-! ### The two whole runs (40 R101, R106, R107, 41 R122) -/

/-- The pending result after a transaction of a TRANSMIT or RECEIVE is the count of its bytes (10 R26). -/
theorem pendingAt_bytes (n : Nat) : pendingAt .bytes 0 n = 0#23 ++ BitVec.ofNat 9 n := by
  unfold pendingAt
  split
  · subst_vars
    rfl
  · exact bytesResult_eq n

/-- No other command counts bytes (10 R26). -/
theorem pendingAfter_of_ne {r : Report} (h : r ≠ .bytes) (xs : List Xact) (w : Word) : pendingAfter r xs w = w := by
  refine List.foldl_fixed' (fun x => ?_) xs
  unfold pendingAt
  cases r <;> simp_all [pendingBytes]

/-- RESULT of a command of write transactions (10 R26, 40 R106). -/
theorem result_of_writes {i : Instr} {l : Latch} {c : BusCmd} {s : State} (hb : busCmdOf i l s = some c)
    (hprobe : c.probe = none) (hwrite : ∀ x ∈ c.items, ∃ a8 pl, x = .write a8 pl) :
    successResult c.report (pendingAfter c.report c.items 0) =
      if i = .transmit then 0#23 ++ l.arg1.extractLsb' 0 9 else 0 := by
  cases i <;> cases hb
  case transmit => 
    refine (pendingAt_bytes l.count).trans ?_
    rw [Latch.count, BitVec.ofNat_toNat, BitVec.setWidth_eq]
    rfl
  case receive => simp [receiveCmd] at hwrite
  case isDeviceReady | dispInit => cases hprobe
  all_goals
    refine pendingAfter_of_ne ?_ _ _
    nofun

/-- Settles O48: the first step is the first poll of item 0, `run_write` runs item 0 and `run_writes` the rest. -/
theorem writeCommandRunsItsTransactions : Obligations.WriteCommandRunsItsTransactions := by
  intro i s l c rest more he hd hb hprobe hne hwrite hconf hlegal hsched hans
  have hresult := result_of_writes hb hprobe hwrite
  have hr : Runs i l c s := ⟨hd, hb⟩
  cases hitems : c.items with
  | nil => exact absurd hitems hne
  | cons x xs =>
    rw [hitems] at hwrite hsched hans hresult
    obtain ⟨hx, hxs⟩ := List.forall_mem_cons.mp hwrite
    have hget : c.items[0]? = some x := by rw [hitems]; rfl
    have hpos : 0 < ((x :: xs).map xactPolls).sum := by
      rw [List.map_cons, List.sum_cons, xactPolls]
      omega
    have hrun := run_first hr he hprobe hget hlegal hconf hpos hsched hans rfl
    simp only [List.map_cons, List.sum_cons, List.flatMap_cons, ← List.replicate_append_replicate,
      List.append_assoc] at hrun ⊢
    refine ⟨_, hrun.trans ((run_add (run_write hr hget hx) _).trans (run_writes hr xs hxs (by rw [hitems]; rfl))), ?_⟩
    refine ⟨rfl, rfl, rfl, rfl, rfl, rfl, rfl, rfl, ?_⟩
    rw [← hresult, dataPos_end]
    rfl

/-- Settles O49: `run_xact` with the read bytes as the answers of the DATA phases. -/
theorem receiveStoresWhatItGets : Obligations.ReceiveStoresWhatItGets := by
  intro s l vs rest more he hd hlen hlegal hconf hsched hans
  have hr : Runs .receive l (receiveCmd l) s := ⟨hd, rfl⟩
  have hcount : vs.length = l.count := hlen
  have hfit : l.off2 + vs.length ≤ 256 := by
    simp only [illegalOperands, not_or, Nat.not_lt] at hlegal
    rw [hlen]
    exact hlegal.2.2
  have hbytes : ∀ a ∈ vs.map Answer.byteIn, wanted (.read l.addr8 l.off2 l.count) .data a = true := fun a ha => by
    obtain ⟨v, -, rfl⟩ := List.mem_map.mp ha
    rfl
  have hfirst := run_first (x := .read l.addr8 l.off2 l.count) hr he rfl rfl hlegal hconf (by omega) hsched hans rfl
  have hxact := run_xact (c := receiveCmd l) (k := 0) (n := 0) (o := 0) (w := 0) (h := []) (es := rest) (as := more) rfl
    _ hbytes hr ((List.length_map _).trans hcount)
  rw [List.length_map, dataPos_end, received_read, xactEvents_read _ _ _ hcount] at hxact
  have hanswers : readAnswers vs ++ more =
      .idle :: .startDone :: .ack :: (vs.map .byteIn ++ .stopDone :: more) := by simp [readAnswers]
  rw [hanswers] at hfirst
  have hkeep : (s.writeBytes .stage l.off2 vs).bh = s.bh ∧ (s.writeBytes .stage l.off2 vs).fb = s.fb := by
    rw [State.writeBytes_eq]
    exact ⟨rfl, rfl⟩
  refine ⟨_, hfirst.trans hxact, congrArg (· ++ readHistory l.addr8 vs) hkeep.1, rfl, rfl, ?_, hkeep.2,
    fun k hk => State.readByte_writeBytes s .stage hk hfit, fun a ha => State.readByte_writeBytes_outside s .stage ha⟩
  rw [hcount]
  exact pendingAt_bytes l.count

end Sys2Proof.Machine
end

section
/-! ## The display commands that use the bus: what they send and what their last STOP leaves (41 R121..R123, R126,
R131..R138) -/

namespace Sys2Proof.Machine

/-! ### The end of a command that reports in STATUS (41 R123, R131, R132) -/

/-- What a completion after a poll without a byte keeps, when the status bits before it are `st` (40 R94). -/
theorem PolledOnly.complete_withStatus {s u t : State} (h : PolledOnly s u) {st : Status} {code : ErrCode} {r : Word}
    (hc : code ≠ .busTimeout) (ht : t = ({ u with status := st } : State).complete code r 0) :
    Ended s t code r ∧ t.fb = s.fb ∧ t.stage = s.stage ∧ t.cursor = s.cursor := by
  subst ht
  obtain ⟨hpolled, hstage⟩ := h
  obtain ⟨hend, -⟩ := complete_ended { u with status := st } r hc
  refine ⟨⟨hend.err, hend.busy, hend.eng, hend.result, hend.info.trans hpolled.errInfo⟩, ?_, hstage, hpolled.cursor⟩
  rw [hpolled.eq]
  rfl

theorem PolledOnly.busSucceed {s u : State} (h : PolledOnly s u) (c : BusCmd) (r : Word) :
    Ended s (busSucceed c r u) .ok (successResult c.report r) ∧ (busSucceed c r u).fb = s.fb ∧
      (busSucceed c r u).stage = s.stage ∧ (busSucceed c r u).cursor = s.cursor :=
  h.complete_withStatus (by decide) rfl

theorem PolledOnly.busNotReady {s u : State} (h : PolledOnly s u) (c : BusCmd) (r : Word) :
    Ended s (busNotReady c r u) .deviceNotReady r ∧ (busNotReady c r u).fb = s.fb ∧
      (busNotReady c r u).stage = s.stage ∧ (busNotReady c r u).cursor = s.cursor :=
  h.complete_withStatus (by decide) rfl

/-- Settles O25: the STOP of the last transaction is `exec_lastStop`, the probe's is `exec_stop` with its one trial used
up. -/
theorem displayInitReportsReadiness : Obligations.DisplayInitReportsReadiness := by
  intro s l p he hph hans
  refine ⟨fun k hj hlast => ?_, fun k hj hk => ?_⟩
  · obtain ⟨u, hu, hx⟩ := exec_lastStop (i := .dispInit) he rfl hj hlast hph hans
    have hinverted := congrArg Status.inverted hu.polled.status
    obtain ⟨hend, hkeep⟩ := hu.busSucceed (dispInitCmd Config.params l) p.pending
    exact ⟨_, hx, hend, rfl, hinverted, hkeep⟩
  · have hin : InXact (dispInitCmd Config.params l) p (.probe l.addr) := by simp [InXact, hj, dispInitCmd]
    obtain ⟨since, hx⟩ := exec_stop (i := .dispInit) he rfl hin hph hans
    have hu := polledOnly_answeredState s (.probe l.addr) p
    have hinverted := congrArg Status.inverted hu.polled.status
    obtain ⟨hend, hkeep⟩ := hu.busNotReady (dispInitCmd Config.params l) p.pending
    have hspent : ¬ k < ((dispInitCmd Config.params l).probe.map Probe.trials).getD 0 := Nat.not_lt.mpr hk
    simp only [endTransaction, hj, Bool.false_eq_true, if_false, hspent] at hx
    exact ⟨_, hx, hend, rfl, hinverted, hkeep⟩

/-- The last STOP of an invert command writes INVERTED and keeps DISP_READY (41 R131, R132). -/
theorem exec_invert_lastStop {i : Instr} {s : State} {l : Latch} {p : Pos} {k : Nat} {b : Byte} {v : Bool}
    (he : s.eng = .exec l (some p)) (hb : busCmdOf i l s = some (displayCmd l [b] (.invert v))) (hj : p.job = .item k)
    (hph : p.phase = .stop) (hans : s.nextAnswer = .stopDone) :
    ∃ t, exec i s = .next t ∧ Ended s t .ok p.pending ∧ t.status.inverted = v ∧
      t.status.dispReady = s.status.dispReady ∧ t.fb = s.fb ∧ t.stage = s.stage ∧ t.cursor = s.cursor := by
  obtain ⟨u, hu, hx⟩ := exec_lastStop he hb hj (Nat.succ_le_succ (Nat.zero_le k)) hph hans
  have hready := congrArg Status.dispReady hu.polled.status
  obtain ⟨hend, hkeep⟩ := hu.busSucceed (displayCmd l [b] (.invert v)) p.pending
  exact ⟨_, hx, hend, rfl, hready, hkeep⟩

/-- Settles O26: both commands are one command byte with the report of the new INVERTED. -/
theorem invertCommandsSetInverted : Obligations.InvertCommandsSetInverted := by
  refine ⟨fun s l p k he hj hph hans => ⟨?_, fun q => ?_⟩, fun s l q => ⟨?_, rfl⟩⟩
  · exact exec_invert_lastStop he rfl hj hph hans
  · exact exec_invert_lastStop he rfl hj hph hans
  · cases h : s.status.inverted <;> simp [toggleInvertCmd, displayCmd, invertByte, cmdX, Config.ctrlCmd, h]

/-! ### The transactions of a display command (41 R121, R123, R126, R133, R138) -/

/-- `n` blocks of `m` elements each are `n * m` elements. -/
theorem length_flatMap_blocks {α : Type} {f : Nat → List α} {m : Nat} (hm : ∀ p, (f p).length = m) (n : Nat) :
    ((List.range n).flatMap f).length = n * m := by
  simp [List.length_flatMap, hm]

/-- Element `j` of block `p` in a list of blocks of `m` elements each. -/
theorem getElem?_flatMap_blocks {α : Type} {f : Nat → List α} {m : Nat} (hm : ∀ p, (f p).length = m) {n p j : Nat}
    (hp : p < n) (hj : j < m) : ((List.range n).flatMap f)[p * m + j]? = (f p)[j]? := by
  induction n with
  | zero => exact absurd hp (Nat.not_lt_zero p)
  | succ n ih =>
    have hlen := length_flatMap_blocks hm n
    rw [List.range_succ, List.flatMap_append, List.flatMap_singleton]
    obtain hpn | rfl := Nat.lt_succ_iff_lt_or_eq.mp hp
    · have hin : p * m + j < n * m :=
        calc p * m + j < p * m + m := Nat.add_lt_add_left hj _
          _ = (p + 1) * m := (Nat.succ_mul p m).symm
          _ ≤ n * m := Nat.mul_le_mul_right m hpn
      rw [List.getElem?_append_left (by omega), ih hpn]
    · rw [List.getElem?_append_right (by omega), hlen, Nat.add_sub_cancel_left]

theorem length_pageItems (P : Params) (l : Latch) (p : Nat) : (pageItems P l p).length = 2 + P.colCmds.length := by
  simp only [pageItems, List.length_cons, List.length_append, List.length_map, List.length_nil]
  omega

/-- The column commands follow the page command (41 R126). -/
theorem pageItems_column (P : Params) (l : Latch) (p : Nat) {j : Nat} (hj : j < P.colCmds.length) :
    (pageItems P l p)[1 + j]? = some (cmdX l P.colCmds[j]) := by
  simp [pageItems, Nat.add_comm 1 j, List.getElem?_append_left, hj]

/-- The page's data is its last transaction (41 R126). -/
theorem pageItems_data (P : Params) (l : Latch) (p : Nat) :
    (pageItems P l p)[1 + P.colCmds.length]? = some (dataX l p) := by
  simp [pageItems, Nat.add_comm 1]

/-- The one transaction of 129 bytes of a page is its data (41 R126). -/
theorem pageItems_filter_data (P : Params) (l : Latch) (p : Nat) :
    (pageItems P l p).filter (fun x => x.length = 129) = [dataX l p] := by
  have hcmd : ∀ b, (cmdX l b).length ≠ 129 := fun b => by simp [cmdX, Xact.length, Payload.length]
  have hdata : (dataX l p).length = 129 := rfl
  simp [pageItems, hcmd, hdata]

/-- Settles O28: UPDATE_SCREEN's list is 8 blocks of one page each, the other lists are one map over bytes. -/
theorem displaySequencesAreTheirTransactions : Obligations.DisplaySequencesAreTheirTransactions := by
  refine ⟨fun l s c hc => ?_, fun l s c hc => ?_, fun s b => ⟨rfl, rfl, rfl⟩, fun a8 pl off n => ⟨rfl, rfl, rfl, rfl⟩,
    fun s p => ⟨rfl, rfl, fun k hk => rfl⟩, fun l s i tpl hi => ?_, fun l s => ⟨_, rfl, rfl, rfl⟩⟩
  · obtain rfl := Option.some.inj hc
    have hm := length_pageItems Config.params l
    refine ⟨length_flatMap_blocks hm 8, ?_, fun p hp => ⟨?_, fun j hj => ?_, ?_⟩⟩
    · simp [updateScreenCmd, List.filter_flatMap, pageItems_filter_data, Config.pages]
    · exact getElem?_flatMap_blocks hm hp (j := 0) (by omega)
    · rw [Nat.add_assoc]
      exact (getElem?_flatMap_blocks hm hp (by omega)).trans (pageItems_column Config.params l p hj)
    · rw [Nat.add_assoc]
      exact (getElem?_flatMap_blocks hm hp (by omega)).trans (pageItems_data Config.params l p)
  · obtain rfl := Option.some.inj hc
    refine ⟨rfl, congrArg (List.map (cmdX l)) ?_⟩
    simp [InitSeq.bytes, InitGroup.bytes]
  · have hscroll : ∀ item, cmdX l (expandItem l.startRow l.endRow item) =
        .write l.addr (.literal [0x00#8, match item with
          | .byte b => b
          | .startRow => l.arg0.extractLsb' 0 8
          | .endRow => l.arg0.extractLsb' 8 8]) := fun item => by cases item <;> rfl
    obtain ⟨rfl, rfl⟩ | ⟨rfl, rfl⟩ | ⟨rfl, rfl⟩ | ⟨rfl, rfl⟩ := hi <;>
      exact ⟨_, rfl, rfl, List.map_map.trans (List.map_congr_left fun item _ => hscroll item)⟩

end Sys2Proof.Machine
end

section
/-! ## Drawing: what a completed drawing keeps, FILL and CLEAR, GOTOXY, and the pixels of `Plot` (41 R124, R125, R127,
42 R152, R164) -/

namespace Sys2Proof.Machine

/-! ### A drawing that completes (40 R94) -/

/-- A command that painted and completes keeps everything but its report, FB and CURSOR. -/
theorem Painted.complete {s u : State} (h : Painted s u) {code : ErrCode} (r : Word) (hc : code ≠ .busTimeout) :
    Ended s (u.complete code r 0) code r ∧ KeepsRest s (u.complete code r 0) ∧
      (u.complete code r 0).stage = s.stage := by
  obtain ⟨hend, -⟩ := complete_ended u r hc
  rw [h.eq] at hend ⊢
  refine ⟨⟨rfl, rfl, rfl, rfl, hend.info⟩, ?_, rfl⟩
  constructor <;> constructor <;> rfl

/-! ### FILL and CLEAR (41 R124, R125) -/

/-- Every byte of a filled framebuffer reads the fill byte. -/
theorem readByte_of_fillCells {t : State} {b : Byte} (h : t.fb = fillCells b) {a : Nat} (ha : a < 1024) :
    t.readByte .fb a = b := by
  rw [State.readByte, State.cells, h, memLookup_fillCells b ha, Option.getD_some]

/-- Filling FB and completing (41 R124, R125). -/
theorem fill_completes {s t : State} {b : Byte} (ht : t = ({ s with fb := fillCells b } : State).complete .ok 0 0) :
    Ended s t .ok 0 ∧ KeepsRest s t ∧ t.cursor = s.cursor ∧ t.stage = s.stage ∧
      ∀ a, a < 1024 → t.readByte .fb a = b := by
  have hfb : t.fb = fillCells b := by rw [ht, State.complete_fb]
  obtain ⟨hend, hkeep, hstage⟩ := (painted_fb s (fillCells_wf b)).complete (code := .ok) 0 (by decide)
  rw [← ht] at hend hkeep hstage
  exact ⟨hend, hkeep, by rw [ht, State.complete_cursor], hstage, fun a ha => readByte_of_fillCells hfb ha⟩

theorem fillByte_eq (c : Color) : fillByte c = if c = .white then 0xFF#8 else 0x00#8 := by
  cases c <;> rfl

/-- Settles O29. -/
theorem fillAndClearSetEveryByte : Obligations.FillAndClearSetEveryByte := by
  refine ⟨by decide, by decide, by decide, fun s l p he => ⟨fun c => ?_, ?_⟩⟩
  · rw [← fillByte_eq]
    exact ⟨_, inExec_exec he _, fill_completes rfl⟩
  · exact ⟨_, inExec_exec he _, fill_completes rfl⟩

/-! ### GOTOXY (41 R127) -/

/-- A clamped coordinate as an integer. -/
theorem toNat_clampTo {top : Nat} (h : top < 2 ^ 16) (v : Int) :
    ((clampTo top v).toNat : Int) = min (max v 0) top := by
  simp only [clampTo, BitVec.toNat_ofNat]
  omega

/-- Settles O30. -/
theorem gotoxyClampsTheCursor : Obligations.GotoxyClampsTheCursor := by
  refine ⟨by decide, fun s l p he => ?_⟩
  obtain ⟨hend, hkeep, hstage⟩ :=
    (painted_gotoXY s (lowS16 l.arg0) (highS16 l.arg0)).complete (code := .ok) 0 (by decide)
  exact ⟨_, inExec_exec he _, hend, hkeep, rfl, hstage, toNat_clampTo (by decide) _, toNat_clampTo (by decide) _⟩

/-! ### The pixels of `Plot` (42 R152, R164) -/

/-- Painting a bit sets it to the colour and leaves the byte's other bits (42 R152). -/
theorem getLsbD_paintBit (c : Color) (b : Byte) {i j : Nat} (hj : j < 8) :
    (paintBit c b i).getLsbD j = if j = i then decide (c = .white) else b.getLsbD j := by
  have hmask : (1#8 <<< i).getLsbD j = decide (i < 8 ∧ i = j) := by
    rw [Bool.decide_and]
    exact BitVec.getLsbD_twoPow i j
  cases c with
  | white =>
    rw [paintBit, BitVec.getLsbD_or, hmask]
    obtain rfl | h := eq_or_ne j i
    · simp [hj]
    · simp [h, h.symm]
  | black =>
    rw [paintBit, BitVec.getLsbD_and, BitVec.getLsbD_not, hmask]
    obtain rfl | h := eq_or_ne j i
    · simp [hj]
    · simp [h, h.symm, hj]

/-- Two on-screen points of one byte and one bit are the same point (10 R34). -/
theorem point_eq_of_pixel {q pt : Point} (hq : onScreen q = true) (hpt : onScreen pt = true)
    (hbyte : pixelByte q = pixelByte pt) (hbit : pixelBit q = pixelBit pt) : q = pt := by
  rw [onScreen_iff] at hq hpt
  simp only [pixelByte, pixelBit, Config.width] at hbyte hbit
  exact Prod.ext (by omega) (by omega)

/-- `Plot` sets its point's pixel to the colour and leaves every other pixel of the screen (42 R152). -/
theorem plot_pixel (c : Color) (s : State) (pt : Point) {q : Point} (hq : onScreen q = true) :
    (plot c s pt).pixel q = if q = pt then decide (c = .white) else s.pixel q := by
  unfold plot
  split
  · rename_i hpt
    unfold State.pixel
    by_cases hbyte : pixelByte q = pixelByte pt
    · have hsame : q = pt ↔ pixelBit q = pixelBit pt := ⟨fun h => by rw [h], point_eq_of_pixel hq hpt hbyte⟩
      have hbit : pixelBit q < 8 := Nat.mod_lt _ (by decide)
      rw [hbyte, State.readByte_writeByte_self _ _ _ (pixelByte_lt hpt), getLsbD_paintBit _ _ hbit]
      simp only [hsame]
    · rw [State.readByte_writeByte_ne _ _ _ hbyte, if_neg fun h => hbyte (by rw [h])]
  · rename_i hpt
    rw [if_neg fun h : q = pt => hpt (h ▸ hq)]

/-- The `Plot` calls of a command set exactly their points' pixels to the colour (42 R164 laws 1, 2, 3). -/
theorem plotAll_pixel (c : Color) (pts : List Point) (s : State) {q : Point} (hq : onScreen q = true) :
    (plotAll c pts s).pixel q = if q ∈ pts then decide (c = .white) else s.pixel q := by
  induction pts generalizing s with
  | nil => rfl
  | cons pt pts ih =>
    have hcons : plotAll c (pt :: pts) s = plotAll c pts (plot c s pt) := rfl
    rw [hcons, ih, plot_pixel c s pt hq]
    by_cases hmem : q ∈ pts <;> simp [hmem]

/-- The points of a bitmap are those of its set bits (42 R163). -/
theorem mem_bitmapPoints (bm : Nat → Byte) (a q : Point) (w h : Nat) :
    q ∈ bitmapPoints bm a w h ↔
      ∃ i j : Nat, i < w ∧ j < h ∧ bitmapBit bm w i j = true ∧ q = (a.1 + (i : Int), a.2 + (j : Int)) := by
  simp only [bitmapPoints, List.mem_flatMap, List.mem_map, List.mem_filter, List.mem_range]
  constructor
  · rintro ⟨j, hj, i, ⟨hi, hbit⟩, rfl⟩
    exact ⟨i, j, hi, hj, hbit, rfl⟩
  · rintro ⟨i, j, hi, hj, hbit, rfl⟩
    exact ⟨j, hj, i, ⟨hi, hbit⟩, rfl⟩

end Sys2Proof.Machine
end

section
/-! ## The characters of PUTC and PUTS (41 R128..R130) -/

namespace Sys2Proof.Machine

/-! ### A glyph (41 R128, 42 R162) -/

theorem glyphCorner_fst (f : Font) (cur : Cursor) :
    (glyphCorner f cur).1 = if decide (128 < cur.cx.toNat + f.fw) = true then 0 else cur.cx.toNat := by
  simp only [decide_eq_true_eq]
  exact apply_ite Prod.fst ..

theorem glyphCorner_snd (f : Font) (cur : Cursor) :
    (glyphCorner f cur).2 =
      if decide (128 < cur.cx.toNat + f.fw) = true then cur.cy.toNat + f.fh else cur.cy.toNat := by
  simp only [decide_eq_true_eq]
  exact apply_ite Prod.snd ..

/-- Pixel (i, j) of the glyph is set (42 R162). -/
def InGlyph (f : Font) (ch : Byte) (i j : Nat) : Prop :=
  i < f.fw ∧ j < f.fh ∧ (f.glyph ch (j * ((f.fw + 7) / 8) + i / 8)).getLsbD (7 - i % 8) = true

/-- A pixel inside the glyph's box lies in one of the bytes the glyph has (10 R38). -/
theorem glyphBitmap_inside {f : Font} {i j : Nat} (ch : Byte) (hi : i < f.fw) (hj : j < f.fh) :
    glyphBitmap f ch (j * ((f.fw + 7) / 8) + i / 8) = f.glyph ch (j * ((f.fw + 7) / 8) + i / 8) := by
  have hbyte : i / 8 < (f.fw + 7) / 8 := by omega
  refine if_pos ?_
  calc j * ((f.fw + 7) / 8) + i / 8 < j * ((f.fw + 7) / 8) + (f.fw + 7) / 8 := Nat.add_lt_add_left hbyte _
    _ = (j + 1) * ((f.fw + 7) / 8) := (Nat.succ_mul ..).symm
    _ ≤ f.fh * ((f.fw + 7) / 8) := Nat.mul_le_mul_right _ hj

/-- The points of a glyph are those of its set pixels, from its corner (41 R128). -/
theorem mem_glyphPoints (f : Font) (ch : Byte) (n : Nat × Nat) (q : Point) :
    q ∈ glyphPoints f ch n ↔ ∃ i j, InGlyph f ch i j ∧ q = (((n.1 + i : Nat) : Int), ((n.2 + j : Nat) : Int)) := by
  rw [glyphPoints, mem_bitmapPoints]
  refine exists₂_congr fun i j => ?_
  constructor
  · rintro ⟨hi, hj, hbit, rfl⟩
    rw [bitmapBit, glyphBitmap_inside ch hi hj] at hbit
    exact ⟨⟨hi, hj, hbit⟩, by push_cast; rfl⟩
  · rintro ⟨⟨hi, hj, hbit⟩, rfl⟩
    refine ⟨hi, hj, ?_, by push_cast; rfl⟩
    rwa [bitmapBit, glyphBitmap_inside ch hi hj]

theorem natCast_mem_glyphPoints (f : Font) (ch : Byte) (n : Nat × Nat) (x y : Nat) :
    ((x : Int), (y : Int)) ∈ glyphPoints f ch n ↔ ∃ i j, InGlyph f ch i j ∧ x = n.1 + i ∧ y = n.2 + j := by
  simp only [mem_glyphPoints, Prod.mk.injEq, Nat.cast_inj]

/-- The pixel at column `x`, row `y` (10 R34). -/
theorem pixel_natCast (s : State) (x y : Nat) :
    s.pixel ((x : Int), (y : Int)) = (s.readByte .fb (x + y / 8 * 128)).getLsbD (y % 8) := rfl

/-- A glyph's set pixels take the colour and every other pixel of the screen stays (41 R128, 42 R164). -/
theorem glyph_pixels (f : Font) (c : Color) (ch : Byte) (n : Nat × Nat) (s : State) {x y : Nat} (hx : x < 128)
    (hy : y < 64) :
    ((plotAll c (glyphPoints f ch n) s).readByte .fb (x + y / 8 * 128)).getLsbD (y % 8) =
      if ((x : Int), (y : Int)) ∈ glyphPoints f ch n then decide (c = .white)
      else (s.readByte .fb (x + y / 8 * 128)).getLsbD (y % 8) := by
  have hq : onScreen ((x : Int), (y : Int)) = true := by
    rw [onScreen_iff]
    omega
  rw [← pixel_natCast, ← pixel_natCast]
  exact plotAll_pixel c (glyphPoints f ch n) s hq

/-- A byte in which no set pixel of the glyph lies stays (41 R128). -/
theorem glyph_bytes (f : Font) (c : Color) (ch : Byte) (n : Nat × Nat) (s : State) {a : Nat}
    (h : ∀ i j, InGlyph f ch i j → n.1 + i + (n.2 + j) / 8 * 128 ≠ a) :
    (plotAll c (glyphPoints f ch n) s).readByte .fb a = s.readByte .fb a := by
  refine plotAll_readByte_ne c _ s a fun pt hpt _ => ?_
  obtain ⟨i, j, hin, rfl⟩ := (mem_glyphPoints f ch n pt).mp hpt
  exact h i j hin

/-! ### PUTC (41 R129) -/

theorem putcStep_of_none {f : Font} {c : Color} {l : Latch} {s : State} (h : putGlyph f c l.char s = none) :
    putcStep (some f) c l s = s.complete .bufferExhausted (charResult l.char) 0 := by
  rw [putcStep, h]

theorem putcStep_of_some {f : Font} {c : Color} {l : Latch} {s u : State} (h : putGlyph f c l.char s = some u) :
    putcStep (some f) c l s = u.complete .ok 0 0 := by
  rw [putcStep, h]

/-- What a command without bus use keeps (41 R120, 42 R150). -/
theorem PaintsAndEnds.keeps {s t : State} (h : PaintsAndEnds s t) : KeepsRest s t ∧ t.stage = s.stage := by
  obtain ⟨u, code, r, hu, hc, rfl⟩ := h
  obtain ⟨-, hkeep, hstage⟩ := hu.complete r hc
  exact ⟨hkeep, hstage⟩

/-- An absent font slot is an illegal operand of PUTC and PUTS (30 R78). -/
theorem complete_absentFont (s : State) :
    Ended s (s.complete .illegalCommand 0 0) .illegalCommand 0 ∧
      (s.complete .illegalCommand 0 0).cursor = s.cursor ∧ (s.complete .illegalCommand 0 0).fb = s.fb :=
  ⟨(complete_illegalCommand s).1, rfl, rfl⟩

/-- Settles O31: PutGlyph fails or paints by `putGlyph_none_iff` and `putGlyph_some`, and the painted pixels are
`glyph_pixels`. -/
theorem putcPaintsTheGlyphOrFails : Obligations.PutcPaintsTheGlyphOrFails := by
  refine ⟨⟨_, rfl, rfl, rfl⟩, fun c slot s l p he => ⟨_, inExec_exec he _, ?_⟩⟩
  obtain ⟨hkeep, hstage⟩ := (paintsAndEnds_putcStep (Config.params.font slot) c l s).keeps
  refine ⟨hkeep, hstage, ?_⟩
  cases Config.params.font slot with
  | none => exact complete_absentFont s
  | some f =>
    simp only [← glyphCorner_fst, ← glyphCorner_snd]
    split
    · rename_i hlow
      rw [putcStep_of_none (putGlyph_none_iff.mpr hlow)]
      exact ⟨(complete_ended s _ (by decide)).1, rfl, rfl⟩
    · rename_i hfit
      obtain ⟨u, hu⟩ := Option.ne_none_iff_exists'.mp fun h => hfit (putGlyph_none_iff (c := c) (ch := l.char).mp h)
      rw [putcStep_of_some hu]
      have hend := ((painted_putGlyph hu).complete (code := .ok) 0 (by decide)).1
      obtain ⟨-, rfl⟩ := putGlyph_some hu
      have hwidth : (glyphCorner f s.cursor).1 + f.fw ≤ 128 := glyphCorner_fits f s.cursor
      refine ⟨hend, ?_, ?_, fun a ha => glyph_bytes f c _ _ s ha, fun x y hx hy => ⟨fun hin => ?_, fun hout => ?_⟩⟩
      · refine (BitVec.toNat_ofNat ..).trans (Nat.mod_eq_of_lt ?_)
        omega
      · refine (BitVec.toNat_ofNat ..).trans (Nat.mod_eq_of_lt ?_)
        omega
      · exact (glyph_pixels f c _ _ s hx hy).trans (if_pos ((natCast_mem_glyphPoints ..).mpr hin))
      · exact (glyph_pixels f c _ _ s hx hy).trans (if_neg (mt (natCast_mem_glyphPoints ..).mp hout))

/-! ### PUTS (41 R130) -/

theorem Painted.readByte_stage {s u : State} (h : Painted s u) (a : Nat) :
    u.readByte .stage a = s.readByte .stage a := by
  rw [h.eq]
  rfl

/-- Drawing leaves the string alone: it is in STAGE. -/
theorem Painted.stageString {s u : State} (h : Painted s u) (fuel k : Nat) :
    stageString u fuel k = stageString s fuel k := by
  induction fuel generalizing k with
  | zero => rfl
  | succ fuel ih => simp only [Machine.stageString, h.readByte_stage, ih]

/-- A string holds no 0x00 (41 R130). -/
theorem ne_zero_of_mem_stageString {s : State} {fuel k : Nat} {ch : Byte} (h : ch ∈ stageString s fuel k) :
    ch ≠ 0x00#8 := by
  induction fuel generalizing k with
  | zero => cases h
  | succ fuel ih =>
    rw [stageString] at h
    split at h
    · cases h
    · rename_i hne
      obtain rfl | hrest := List.mem_cons.mp h
      · exact hne
      · exact ih hrest

theorem painted_drawString (f : Font) (c : Color) (cs : List Byte) (s : State) :
    Painted s (drawString f c cs s).1 := by
  induction cs generalizing s with
  | nil => exact .refl s
  | cons ch cs ih =>
    rw [drawString]
    split
    · exact .refl s
    · rename_i hu
      exact (painted_putGlyph hu).trans (ih _)

/-- The character that did not fit is one of the string's (41 R130). -/
theorem mem_of_drawString_snd {f : Font} {c : Color} {cs : List Byte} {s : State} {ch : Byte}
    (h : (drawString f c cs s).2 = some ch) : ch ∈ cs := by
  induction cs generalizing s with
  | nil => cases h
  | cons d cs ih =>
    rw [drawString] at h
    split at h
    · obtain rfl := Option.some.inj h
      exact List.mem_cons_self
    · exact List.mem_cons_of_mem d (ih h)

/-- How PUTS ends once its string is drawn: with OK, or with the character that did not fit (41 R130). -/
def endPuts : State × Option Byte → State
  | (u, none) => u.complete .ok 0 0
  | (u, some ch) => u.complete .bufferExhausted (charResult ch) 0

theorem endPuts_fb (d : State × Option Byte) : (endPuts d).fb = d.1.fb := by
  obtain ⟨u, _ | ch⟩ := d <;> rfl

theorem endPuts_cursor (d : State × Option Byte) : (endPuts d).cursor = d.1.cursor := by
  obtain ⟨u, _ | ch⟩ := d <;> rfl

/-- The report of a string drawn with `Painted` steps (41 R130). -/
theorem endPuts_ended {s : State} {d : State × Option Byte} (h : Painted s d.1) :
    (d.2 = none → Ended s (endPuts d) .ok 0) ∧
      ∀ ch, d.2 = some ch → Ended s (endPuts d) .bufferExhausted (charResult ch) := by
  obtain ⟨u, o⟩ := d
  refine ⟨?_, fun ch => ?_⟩
  · rintro rfl
    exact (h.complete 0 (by decide)).1
  · rintro rfl
    exact (h.complete (charResult ch) (by decide)).1

/-- The loop of PUTS draws its string and ends (41 R130). -/
theorem putsLoop_eq (f : Font) (c : Color) (fuel k : Nat) (s : State) :
    putsLoop f c fuel k s = endPuts (drawString f c (stageString s fuel k) s) := by
  induction fuel generalizing k s with
  | zero => rfl
  | succ fuel ih =>
    rw [putsLoop, stageString]
    split
    · rfl
    · rw [drawString]
      cases hu : putGlyph f c (s.readByte .stage k) s with
      | none => rfl
      | some u => exact (ih (k + 1) u).trans (by rw [(painted_putGlyph hu).stageString])

/-- Settles O32: PutGlyph against PUTC by its two outcomes, and PUTS by `putsLoop_eq`. -/
theorem putsDrawsItsString : Obligations.PutsDrawsItsString := by
  refine ⟨fun c slot s l p f he hf => ⟨_, inExec_exec he _, ?_⟩, fun c slot s l p he => ⟨_, inExec_exec he _, ?_⟩⟩
  · rw [hf]
    cases hu : putGlyph f c (l.arg0.extractLsb' 0 8) s with
    | none =>
      rw [putcStep_of_none hu]
      rfl
    | some u =>
      rw [putcStep_of_some hu]
      exact ⟨rfl, rfl, rfl, (painted_putGlyph hu).eq⟩
  · obtain ⟨hkeep, hstage⟩ := (paintsAndEnds_putsStep (Config.params.font slot) c l s).keeps
    refine ⟨hkeep, hstage, ?_⟩
    cases Config.params.font slot with
    | none => exact complete_absentFont s
    | some f =>
      have hputs : putsStep (some f) c l s = endPuts (drawString f c (stageString s (256 - l.off0) l.off0) s) :=
        putsLoop_eq ..
      obtain ⟨hok, hfail⟩ := endPuts_ended (painted_drawString f c (stageString s (256 - l.off0) l.off0) s)
      rw [hputs]
      refine ⟨endPuts_fb _, endPuts_cursor _, ?_⟩
      split
      · rename_i hd
        exact hok hd
      · rename_i ch hd
        exact ⟨hfail ch hd, ne_zero_of_mem_stageString (mem_of_drawString_snd hd)⟩

end Sys2Proof.Machine
end

section
/-! ## Who uses the bus: a command outside the bus list reaches neither ENV nor BH and does not read CONFIGURED, and a
bus command but UPDATE_SCREEN does not read FB (40 R109, 41 R120, R139, 42 R150) -/

namespace Sys2Proof.Machine

theorem usesBus_of_busCmdOf {i : Instr} {l : Latch} {s : State} {c : BusCmd} (h : busCmdOf i l s = some c) :
    usesBus i = true := by
  cases i <;> cases h <;> rfl

/-- A command without bus use leaves BH and what ENV still has to say alone (41 R120, 42 R150). -/
theorem exec_noBus_keeps {i : Instr} {s t : State} (h : usesBus i = false) (hx : exec i s = .next t) :
    t.bh = s.bh ∧ t.answers = s.answers ∧ t.draws = s.draws ∧ t.polled = s.polled := by
  obtain ⟨l, p, -, hk⟩ := exec_cases hx
  cases hk with
  | bus c legal hc ht => exact absurd (usesBus_of_busCmdOf hc) (by simp [h])
  | init duty hi ht =>
    rw [ht, busInit_eq]
    exact ⟨rfl, rfl, rfl, rfl⟩
  | draws hb hi hc ht =>
    rw [ht.eq]
    exact ⟨rfl, rfl, rfl, rfl⟩

/-! ### Drawing does not read STATUS (41 R120, 42 R150) -/

theorem plot_setStatus (c : Color) (s : State) (pt : Point) (st : Status) :
    plot c { s with status := st } pt = { plot c s pt with status := st } := by
  unfold plot
  split
  · unfold State.writeByte
    split <;> rfl
  · rfl

theorem plotAll_setStatus (c : Color) (pts : List Point) (s : State) (st : Status) :
    plotAll c pts { s with status := st } = { plotAll c pts s with status := st } := by
  induction pts generalizing s with
  | nil => rfl
  | cons pt pts ih =>
    have hcons : ∀ u, plotAll c (pt :: pts) u = plotAll c pts (plot c u pt) := fun u => rfl
    rw [hcons, hcons, plot_setStatus, ih]

theorem putGlyph_setStatus (f : Font) (c : Color) (ch : Byte) (s : State) (st : Status) :
    putGlyph f c ch { s with status := st } =
      (putGlyph f c ch s).map fun u => { u with status := st } := by
  unfold putGlyph
  dsimp only
  rw [plotAll_setStatus]
  split <;> rfl

/-- Two steps with the same drawing and the same report. -/
structure SameEffect (t u : State) : Prop where
  fb : t.fb = u.fb
  cursor : t.cursor = u.cursor
  result : t.result = u.result
  err : t.status.err = u.status.err

/-- Completions of states that differ in STATUS only have the same effect: ERR is the completion's own (40 R94). -/
theorem sameEffect_complete (s : State) (st : Status) (code : ErrCode) (r : Word) :
    SameEffect (s.complete code r 0) (({ s with status := st } : State).complete code r 0) :=
  ⟨rfl, rfl, rfl, rfl⟩

theorem sameEffect_draw (c : Color) (pts : List Point) (s : State) (st : Status) :
    SameEffect (draw c pts s) (draw c pts { s with status := st }) := by
  rw [draw, draw, plotAll_setStatus c pts s st]
  exact sameEffect_complete ..

theorem sameEffect_putcStep (font : Option Font) (c : Color) (l : Latch) (s : State) (st : Status) :
    SameEffect (putcStep font c l s) (putcStep font c l { s with status := st }) := by
  cases font with
  | none => exact sameEffect_complete ..
  | some f =>
    rw [putcStep, putcStep, putGlyph_setStatus f c l.char s st]
    cases putGlyph f c l.char s <;> exact sameEffect_complete ..

theorem sameEffect_putsLoop (f : Font) (c : Color) (fuel k : Nat) (s : State) (st : Status) :
    SameEffect (putsLoop f c fuel k s) (putsLoop f c fuel k { s with status := st }) := by
  induction fuel generalizing k s with
  | zero => exact sameEffect_complete ..
  | succ fuel ih =>
    have hread : ({ s with status := st } : State).readByte .stage k = s.readByte .stage k := rfl
    rw [putsLoop, putsLoop, hread, putGlyph_setStatus f c _ s st]
    split
    · exact sameEffect_complete ..
    · cases putGlyph f c (s.readByte .stage k) s with
      | none => exact sameEffect_complete ..
      | some u => exact ih (k + 1) u

theorem sameEffect_putsStep (font : Option Font) (c : Color) (l : Latch) (s : State) (st : Status) :
    SameEffect (putsStep font c l s) (putsStep font c l { s with status := st }) := by
  cases font with
  | none => exact sameEffect_complete ..
  | some f => exact sameEffect_putsLoop ..

theorem sameEffect_busInit (P : Params) (duty : Bool) (l : Latch) (s : State) (st : Status) :
    SameEffect (busInit P duty l s) (busInit P duty l { s with status := st }) := by
  unfold busInit
  split
  · exact ⟨rfl, rfl, rfl, rfl⟩
  · exact ⟨rfl, rfl, rfl, rfl⟩

/-- A command without bus use draws and reports the same whatever STATUS holds, CONFIGURED with it (41 R120). -/
theorem sameEffect_exec {i : Instr} {s t u : State} {st : Status} (h : usesBus i = false) (ht : exec i s = .next t)
    (hu : exec i { s with status := st } = .next u) : SameEffect t u := by
  cases i <;> cases h <;> obtain ⟨l, p, he, rfl⟩ := inExec_next_iff.mp ht <;>
    obtain rfl := Host.Outcome.next.inj ((inExec_exec he _).symm.trans hu)
  case nop | fill | clear | gotoXY => exact ⟨rfl, rfl, rfl, rfl⟩
  case busInit duty => exact sameEffect_busInit ..
  case putc c slot => exact sameEffect_putcStep ..
  case puts c slot => exact sameEffect_putsStep ..
  all_goals exact sameEffect_draw ..

/-- Settles O45. -/
theorem onlyBusCommandsTouchTheBus : Obligations.OnlyBusCommandsTouchTheBus := by
  intro i s t h ht
  obtain ⟨hbh, hanswers, hdraws, hpolled⟩ := exec_noBus_keeps h ht
  refine ⟨hbh, hanswers, hdraws, hpolled, fun b u hu => ?_⟩
  obtain ⟨hfb, hcursor, hresult, herr⟩ := sameEffect_exec h ht hu
  exact ⟨hfb, hcursor, hresult, herr⟩

/-! ### Only a page transaction reads FB (41 R121, R139) -/

/-- The transaction sends no page of FB. -/
def Xact.sendsFb : Xact → Bool
  | .write _ (.page _) => true
  | _ => false

/-- The FB content a transaction does not send makes no difference to its actions. -/
theorem phaseAction_setFb {x : Xact} (hx : x.sendsFb = false) (s : State) (m : Memory) (ph : Phase) (i : Nat) :
    phaseAction { s with fb := m } x ph i = phaseAction s x ph i := by
  cases x with
  | write a8 pl => cases pl <;> cases hx <;> rfl
  | _ => rfl

theorem pollState_setFb {x : Xact} (hx : x.sendsFb = false) (s : State) (m : Memory) (p : Pos) :
    pollState { s with fb := m } x p = { pollState s x p with fb := m } := by
  unfold pollState
  rw [phaseAction_setFb hx]
  cases p.since with
  | none => cases phaseAction s x p.phase p.byte <;> rfl
  | some tp => rfl

theorem storeReceived_setFb (x : Xact) (i : Nat) (a : Answer) (s : State) (m : Memory) :
    storeReceived x i a { s with fb := m } = { storeReceived x i a s with fb := m } := by
  unfold storeReceived
  split
  · unfold State.writeByte
    split <;> rfl
  · rfl

theorem nextItem_setFb (c : BusCmd) (l : Latch) (p : Pos) (i : Nat) (s : State) (m : Memory) :
    nextItem c l p i { s with fb := m } = { nextItem c l p i s with fb := m } := by
  unfold nextItem
  split <;> rfl

theorem endTransaction_setFb (c : BusCmd) (l : Latch) (p : Pos) (s : State) (m : Memory) :
    endTransaction c l p { s with fb := m } = { endTransaction c l p s with fb := m } := by
  unfold endTransaction
  split
  · exact nextItem_setFb ..
  · split
    · exact nextItem_setFb ..
    · split <;> rfl

theorem endPhase_setFb (c : BusCmd) (l : Latch) (x : Xact) (p : Pos) (a : Answer) (s : State) (m : Memory) :
    endPhase c l x p a { s with fb := m } = { endPhase c l x p a s with fb := m } := by
  unfold endPhase
  cases p.phase with
  | busyWait | start | addr => rfl
  | data =>
    dsimp only
    rw [storeReceived_setFb]
    rfl
  | stop => exact endTransaction_setFb ..

theorem takeAnswer_setFb (s : State) (m : Memory) :
    ({ s with fb := m } : State).takeAnswer = { s.takeAnswer with fb := m } := by
  unfold State.takeAnswer
  cases s.answers <;> rfl

theorem pollPhase_setFb (c : BusCmd) (l : Latch) (x : Xact) (p : Pos) (s : State) (m : Memory) :
    pollPhase c l x p { s with fb := m } = { pollPhase c l x p s with fb := m } := by
  have hend := endPhase_setFb c l x p s.nextAnswer (s.takeAnswer.consume s.nextAnswer) m
  have helapsed : elapsed { s with fb := m } p = elapsed s p := rfl
  have hnext : ({ s with fb := m } : State).nextAnswer = s.nextAnswer := rfl
  unfold pollPhase
  rw [takeAnswer_setFb, helapsed, hnext]
  dsimp only
  split
  · exact hend
  · split <;> rfl

theorem busPoll_setFb (P : Params) {c : BusCmd} (hc : ∀ x ∈ c.items, x.sendsFb = false) (l : Latch) (p : Pos)
    (s : State) (m : Memory) : busPoll P c l p { s with fb := m } = { busPoll P c l p s with fb := m } := by
  cases h : c.current p with
  | none =>
    simp only [busPoll, h]
    rfl
  | some x =>
    have hx : x.sendsFb = false := by
      unfold BusCmd.current at h
      split at h
      · obtain ⟨pr, -, rfl⟩ := Option.map_eq_some_iff.mp h
        rfl
      · exact hc x (List.mem_of_getElem? h)
    rw [busPoll_eq P l _ h, busPoll_eq P l s h, pollState_setFb hx, pollPhase_setFb]
    rfl

theorem busStep_setFb (P : Params) (legal : Bool) {c : BusCmd} (hc : ∀ x ∈ c.items, x.sendsFb = false) (l : Latch)
    (pos : Option Pos) (s : State) (m : Memory) :
    busStep P legal c l pos { s with fb := m } = { busStep P legal c l pos s with fb := m } := by
  have hpoll := fun p => busPoll_setFb P hc l p s m
  unfold busStep busBegin
  split
  · split
    · split
      · split
        · split
          · rfl
          · exact hpoll _
        · exact hpoll _
      · rfl
    · rfl
  · exact hpoll _

/-- Of the bus commands only UPDATE_SCREEN has a transaction that sends FB (41 R126, R139). -/
theorem busCmdOf_sendsNoFb {i : Instr} {l : Latch} {s : State} {c : BusCmd} (hi : i ≠ .updateScreen)
    (hb : busCmdOf i l s = some c) : ∀ x ∈ c.items, x.sendsFb = false := by
  have hcmd : ∀ bs : List Byte, ∀ x ∈ bs.map (cmdX l), x.sendsFb = false := fun bs x hx => by
    obtain ⟨b, -, rfl⟩ := List.mem_map.mp hx
    rfl
  cases i <;> cases hb
  case updateScreen => exact absurd rfl hi
  case transmit | receive | isDeviceReady => simp [transmitCmd, receiveCmd, isDeviceReadyCmd, Xact.sendsFb]
  all_goals exact hcmd _

/-- The operand check of a bus command (30 R78). -/
def operandsLegal (i : Instr) (l : Latch) : Bool :=
  match i with
  | .transmit => transmitLegal l
  | .receive => receiveLegal l
  | _ => true

/-- A step of a bus command, the first or a later one, is `busStep` with its operand check (40 R93, 60 R174). -/
theorem exec_busStep {i : Instr} {s : State} {l : Latch} {p : Option Pos} {c : BusCmd} (he : s.eng = .exec l p)
    (hb : busCmdOf i l s = some c) : exec i s = .next (busStep Config.params (operandsLegal i l) c l p s) := by
  cases i <;> cases hb <;> exact inExec_exec he _

/-- Settles O46: the bus commands by `busStep_setFb`, the others by O45. -/
theorem onlyUpdateScreenSendsTheFramebuffer : Obligations.OnlyUpdateScreenSendsTheFramebuffer := by
  have hsame : ∀ (i : Instr) (s t : State) (m : Memory), usesBus i = true → i ≠ .updateScreen →
      exec i s = .next t → exec i { s with fb := m } = .next { t with fb := m } := by
    intro i s t m hbus hi hx
    obtain ⟨l, p, he, -⟩ := exec_cases hx
    obtain ⟨c, hb⟩ := exists_busCmdOf hbus l s
    have hb' : busCmdOf i l { s with fb := m } = some c := (busCmdOf_congr i l rfl).trans hb
    have hx' : exec i { s with fb := m } = .next (busStep Config.params (operandsLegal i l) c l p { s with fb := m }) :=
      exec_busStep he hb'
    obtain rfl := Host.Outcome.next.inj ((exec_busStep he hb).symm.trans hx)
    rw [hx', busStep_setFb _ _ (busCmdOf_sendsNoFb hi hb)]
  refine ⟨hsame, fun i s t u m hi ht hu => ?_⟩
  cases hbus : usesBus i with
  | true =>
    obtain rfl := Host.Outcome.next.inj ((hsame i s t m hbus hi ht).symm.trans hu)
    rfl
  | false =>
    obtain ⟨htbh, -⟩ := exec_noBus_keeps hbus ht
    obtain ⟨hubh, -⟩ := exec_noBus_keeps hbus hu
    exact hubh.trans htbh.symm

end Sys2Proof.Machine
end

section
/-! ## `Plot` and the DRAW commands: a command's points are painted, and nothing else (42 R150, R152, R162..R164) -/

namespace Sys2Proof.Machine

/-! ### One `Plot` in bytes and bits (42 R152, 10 R34) -/

theorem onScreen_mk_iff (x y : Int) : onScreen (x, y) = true ↔ 0 ≤ x ∧ x < 128 ∧ 0 ≤ y ∧ y < 64 := by
  rw [onScreen_iff, and_assoc]

/-- The bit of the screen's column `u`, row `v` after a `Plot` (42 R152). -/
theorem plot_bit (c : Color) (s : State) (x y : Int) {u v : Nat} (hu : u < 128) (hv : v < 64) :
    ((plot c s (x, y)).readByte .fb (u + v / 8 * 128)).getLsbD (v % 8) =
      if (u : Int) = x ∧ (v : Int) = y then decide (c = .white)
      else (s.readByte .fb (u + v / 8 * 128)).getLsbD (v % 8) := by
  have hq : onScreen ((u : Int), (v : Int)) = true := by
    rw [onScreen_mk_iff]
    omega
  simp only [← Prod.mk.injEq]
  exact plot_pixel c s (x, y) hq

/-- A `Plot` leaves every byte alone but its point's (42 R152). -/
theorem plot_readByte_ne (c : Color) (s : State) {pt : Point} {a : Nat} (h : a ≠ pixelByte pt) :
    (plot c s pt).readByte .fb a = s.readByte .fb a := by
  refine plotAll_readByte_ne c [pt] s a fun q hq _ => ?_
  rw [List.mem_singleton.mp hq]
  exact h.symm

/-- Off the screen a `Plot` has no effect (42 R152). -/
theorem plot_offScreen (c : Color) (s : State) {pt : Point} (h : ¬ onScreen pt = true) : plot c s pt = s :=
  if_neg h

/-- Settles O33. -/
theorem plotWritesOnePixel : Obligations.PlotWritesOnePixel := by
  refine ⟨fun c s x y => ⟨fun _ => ⟨fun u v hu hv => plot_bit c s x y hu hv, fun a ha => plot_readByte_ne c s ha,
    plot_eq c s (x, y)⟩, fun hoff => ?_⟩, fun s q => ⟨rfl, rfl, onScreen_mk_iff q.1 q.2⟩⟩
  exact plot_offScreen c s (mt (onScreen_mk_iff x y).mp hoff)

/-! ### A DRAW command (42 R150) -/

/-- A drawing completes with OK and keeps all but its report and FB (42 R150). -/
theorem draw_completes (c : Color) (pts : List Point) (s : State) :
    Ended s (draw c pts s) .ok 0 ∧ KeepsRest s (draw c pts s) ∧ (draw c pts s).cursor = s.cursor ∧
      (draw c pts s).stage = s.stage := by
  obtain ⟨hend, hkeep, hstage⟩ := (painted_plotAll c pts s).complete (code := .ok) 0 (by decide)
  exact ⟨hend, hkeep, plotAll_cursor c pts s, hstage⟩

/-- Completing does not touch FB, so the pixels are those of the `Plot` calls (42 R164 law 1). -/
theorem draw_pixel (c : Color) (pts : List Point) (s : State) {q : Point} (hq : onScreen q = true) :
    (draw c pts s).pixel q = if q ∈ pts then decide (c = .white) else s.pixel q :=
  plotAll_pixel c pts s hq

/-- Settles O34: DRAW_PIXEL is one `Plot`, then the completion. -/
theorem drawPixelPaintsItsPoint : Obligations.DrawPixelPaintsItsPoint := by
  intro c s l p he
  obtain ⟨hend, hkeep, hcursor, hstage⟩ := draw_completes c [point l.arg0] s
  refine ⟨_, inExec_exec he _, hend, hkeep, hcursor, hstage, ?_⟩
  dsimp only
  split
  · exact ⟨fun u v hu hv => plot_bit c s _ _ hu hv, fun a ha => plot_readByte_ne c s (pt := point l.arg0) ha⟩
  · rename_i hoff
    have hplot : plot c s (point l.arg0) = s := plot_offScreen c s (mt (onScreen_mk_iff _ _).mp hoff)
    exact (congrArg State.fb hplot :)

/-- A DRAW command draws its points in its colour (42 R150). -/
theorem exec_of_drawPoints {i : Instr} {s : State} {l : Latch} {p : Option Pos} {d : Color × List Point}
    (he : s.eng = .exec l p) (hd : drawPoints i l s = some d) : exec i s = .next (draw d.1 d.2 s) := by
  cases i <;> cases hd <;> exact inExec_exec he _

/-- Settles O35: every DRAW command is `draw` of its points. -/
theorem drawCommandsPaintTheirPointSet : Obligations.DrawCommandsPaintTheirPointSet := by
  refine ⟨fun p1 p2 p3 q => ?_, fun l v => ⟨rfl, rfl, rfl, rfl, rfl⟩, fun i s l p c pts he hd => ?_⟩
  · rw [trianglePoints, List.mem_append, List.mem_append, or_assoc]
  · obtain ⟨hend, hkeep, hcursor, hstage⟩ := draw_completes c pts s
    exact ⟨_, exec_of_drawPoints he hd, hend, hkeep, hcursor, hstage, fun q hq => draw_pixel c pts s hq,
      fun a ha => plotAll_readByte_ne c pts s a ha⟩

/-- The points of a command depend on the state through the bytes of STAGE only (42 R163). -/
theorem drawPoints_congr (i : Instr) (l : Latch) {s t : State} (hstage : t.stage = s.stage)
    (hdraw : t.ramDraw = s.ramDraw) : drawPoints i l t = drawPoints i l s := by
  have hbitmap : ∀ off, stageBitmap t off = stageBitmap s off := fun off => funext fun k => by
    rw [stageBitmap, stageBitmap, State.readByte_congr (sp := .stage) hstage hdraw]
  cases i with
  | drawBitmap c => simp only [drawPoints, hbitmap]
  | _ => rfl

/-- Settles O36: the second run has the same points, since the first changed no byte of STAGE. -/
theorem drawingTwiceIsDrawingOnce : Obligations.DrawingTwiceIsDrawingOnce := by
  intro i s t u l p d he hd ht hu q hq
  obtain rfl := Host.Outcome.next.inj ((exec_of_drawPoints he hd).symm.trans ht)
  obtain ⟨-, hkeep, -, hstage⟩ := draw_completes d.1 d.2 s
  have hsame : drawPoints i l { draw d.1 d.2 s with eng := s.eng } = some d :=
    (drawPoints_congr i l hstage hkeep.outside.ramDraw).trans hd
  have hagain : exec i { draw d.1 d.2 s with eng := s.eng } = _ := exec_of_drawPoints he hsame
  obtain rfl := Host.Outcome.next.inj (hagain.symm.trans hu)
  have hfirst : ({ draw d.1 d.2 s with eng := s.eng } : State).pixel q = (draw d.1 d.2 s).pixel q := rfl
  rw [draw_pixel d.1 d.2 _ hq, hfirst, draw_pixel d.1 d.2 s hq]
  split <;> rfl

/-! ### A bitmap (42 R162, R163) -/

/-- Settles O44: the points are `mem_bitmapPoints`. -/
theorem bitmapPaintsItsSetBits : Obligations.BitmapPaintsItsSetBits := by
  refine ⟨fun bm a q w h => ?_, fun s off k => ?_⟩
  · rw [mem_bitmapPoints]
    exact exists₂_congr fun i j => and_congr_right' (and_congr_right' and_comm)
  · simp only [stageBitmap, Config.stageBytes, Nat.lt_succ_iff]
    rfl

end Sys2Proof.Machine
end

section
/-! ## Lines and rectangles (42 R154..R157): in columns and rows from its first endpoint a line's plots are the iterates
of one step, and a rectangle is made of horizontal and vertical lines -/

namespace Sys2Proof.Machine

/-! ### The step of the error term, in columns and rows from the first endpoint -/

/-- `err` of 42 R154 at `d.1` columns and `d.2` rows from the first endpoint. -/
def lineErr (dx dy : Nat) (d : Int × Int) : Int := (d.2 + 1) * dx - (d.1 + 1) * dy

/-- The next column and row of the loop of 42 R154. -/
def lineNext (dx dy : Nat) (d : Int × Int) : Int × Int :=
  (d.1 + if 2 * lineErr dx dy d > -dy then 1 else 0, d.2 + if 2 * lineErr dx dy d < dx then 1 else 0)

/-- The columns and rows of plot `k`, counted from 0. -/
def lineOffset (dx dy k : Nat) : Int × Int := (lineNext dx dy)^[k] (0, 0)

theorem lineOffset_succ (dx dy k : Nat) : lineOffset dx dy (k + 1) = lineNext dx dy (lineOffset dx dy k) :=
  Function.iterate_succ_apply' ..

/-- Columns and rows are treated alike, so a steep line is a flat one turned. -/
theorem lineNext_swap (dx dy : Nat) (d : Int × Int) : lineNext dy dx d.swap = (lineNext dx dy d).swap := by
  have herr : lineErr dy dx d.swap = -lineErr dx dy d := by
    simp only [lineErr, Prod.fst_swap, Prod.snd_swap]
    ring
  have hcol : 2 * -lineErr dx dy d > -dx ↔ 2 * lineErr dx dy d < dx := by omega
  have hrow : 2 * -lineErr dx dy d < dy ↔ 2 * lineErr dx dy d > -dy := by omega
  rw [lineNext, herr]
  simp only [hcol, hrow]
  rfl

theorem lineOffset_swap (dx dy k : Nat) : lineOffset dy dx k = (lineOffset dx dy k).swap := by
  induction k with
  | zero => rfl
  | succ k ih => rw [lineOffset_succ, lineOffset_succ, ih, lineNext_swap]

/-! ### A flat line: one column each step, and the row within half a row of the exact line -/

/-- How far `d` lies above the exact line, in units of `1 / dx` rows. -/
def lineDev (dx dy : Nat) (d : Int × Int) : Int := d.2 * dx - d.1 * dy

theorem lineErr_eq (dx dy : Nat) (d : Int × Int) : lineErr dx dy d = lineDev dx dy d + dx - dy := by
  simp only [lineErr, lineDev]
  ring

theorem lineDev_lineNext (dx dy : Nat) (d : Int × Int) :
    lineDev dx dy (lineNext dx dy d) =
      lineDev dx dy d + (if 2 * lineErr dx dy d < dx then (dx : Int) else 0) -
        if 2 * lineErr dx dy d > -dy then (dy : Int) else 0 := by
  simp only [lineNext, lineDev, add_mul, ite_mul, one_mul, zero_mul]
  ring

/-- Plot `k` of a flat line lies in column `k`, within half a row of the exact line, and on it when it is diagonal. -/
structure NearLine (dx dy k : Nat) (d : Int × Int) : Prop where
  column : d.1 = k
  low : -(dx : Int) ≤ 2 * lineDev dx dy d
  high : 2 * lineDev dx dy d < dx
  diagonal : dx = dy → lineDev dx dy d = 0

theorem NearLine.next {dx dy k : Nat} {d : Int × Int} (hflat : dy ≤ dx) (hpos : 0 < dx) (h : NearLine dx dy k d) :
    NearLine dx dy (k + 1) (lineNext dx dy d) := by
  obtain ⟨hcol, hlow, hhigh, hdiag⟩ := h
  have herr := lineErr_eq dx dy d
  have hcolumn : 2 * lineErr dx dy d > -dy := by omega
  have hdev := lineDev_lineNext dx dy d
  rw [if_pos hcolumn] at hdev
  refine ⟨?_, ?_, ?_, fun hd => ?_⟩
  · simp only [lineNext, if_pos hcolumn, hcol]
    push_cast
    rfl
  all_goals split at hdev <;> omega

theorem lineOffset_near {dx dy : Nat} (hflat : dy ≤ dx) (hpos : 0 < dx) (k : Nat) :
    NearLine dx dy k (lineOffset dx dy k) := by
  induction k with
  | zero =>
    have hdev : lineDev dx dy (lineOffset dx dy 0) = 0 := by simp [lineOffset, lineDev]
    exact ⟨rfl, by omega, by omega, fun _ => hdev⟩
  | succ k ih =>
    rw [lineOffset_succ]
    exact ih.next hflat hpos

/-- A flat line takes one column each step. -/
theorem lineOffset_fst {dx dy k : Nat} (hflat : dy ≤ dx) (hk : k ≤ dx) : (lineOffset dx dy k).1 = k := by
  obtain rfl | hpos := Nat.eq_zero_or_pos dx
  · obtain rfl := Nat.le_zero.mp hk
    rfl
  · exact (lineOffset_near hflat hpos k).column

/-- A flat line stays between its first and its last row. -/
theorem lineOffset_snd_mem {dx dy k : Nat} (hflat : dy ≤ dx) (hk : k ≤ dx) :
    0 ≤ (lineOffset dx dy k).2 ∧ (lineOffset dx dy k).2 ≤ dy := by
  obtain rfl | hpos := Nat.eq_zero_or_pos dx
  · obtain rfl := Nat.le_zero.mp hk
    exact ⟨le_rfl, Int.natCast_nonneg dy⟩
  · obtain ⟨hcol, hlow, hhigh, -⟩ := lineOffset_near hflat hpos k
    rw [lineDev, hcol] at hlow hhigh
    have hpos' : (0 : Int) < dx := by exact_mod_cast hpos
    have hbelow : (0 : Int) ≤ k * dy := by positivity
    have habove : (k : Int) * dy ≤ dx * dy := by exact_mod_cast Nat.mul_le_mul_right dy hk
    constructor
    · by_contra hneg
      nlinarith
    · by_contra hover
      nlinarith

/-- A flat line ends in its last row. -/
theorem lineOffset_snd_last {dx dy : Nat} (hflat : dy ≤ dx) : (lineOffset dx dy dx).2 = dy := by
  obtain ⟨-, hle⟩ := lineOffset_snd_mem hflat le_rfl
  refine le_antisymm hle ?_
  obtain rfl | hpos := Nat.eq_zero_or_pos dx
  · obtain rfl := Nat.le_zero.mp hflat
    rfl
  · obtain ⟨hcol, hlow, -, -⟩ := lineOffset_near hflat hpos dx
    rw [lineDev, hcol] at hlow
    have hpos' : (0 : Int) < dx := by exact_mod_cast hpos
    by_contra hlt
    nlinarith

/-! ### Any line -/

/-- A steep line takes one row each step. -/
theorem lineOffset_snd {dx dy k : Nat} (hsteep : dx ≤ dy) (hk : k ≤ dy) : (lineOffset dx dy k).2 = k := by
  rw [lineOffset_swap dy dx]
  exact lineOffset_fst hsteep hk

/-- No plot of a line leaves the box of its endpoints. -/
theorem lineOffset_mem_box {dx dy k : Nat} (hk : k ≤ max dx dy) :
    (0 ≤ (lineOffset dx dy k).1 ∧ (lineOffset dx dy k).1 ≤ dx) ∧
      0 ≤ (lineOffset dx dy k).2 ∧ (lineOffset dx dy k).2 ≤ dy := by
  obtain hflat | hsteep := le_total dy dx
  · rw [max_eq_left hflat] at hk
    refine ⟨?_, lineOffset_snd_mem hflat hk⟩
    rw [lineOffset_fst hflat hk]
    omega
  · rw [max_eq_right hsteep] at hk
    rw [lineOffset_swap dy dx]
    refine ⟨lineOffset_snd_mem hsteep hk, ?_⟩
    rw [Prod.snd_swap, lineOffset_fst hsteep hk]
    omega

/-- The last plot of a line is its other endpoint. -/
theorem lineOffset_last (dx dy : Nat) : lineOffset dx dy (max dx dy) = ((dx : Int), (dy : Int)) := by
  obtain hflat | hsteep := le_total dy dx
  · rw [max_eq_left hflat]
    exact Prod.ext (lineOffset_fst hflat le_rfl) (lineOffset_snd_last hflat)
  · rw [max_eq_right hsteep, lineOffset_swap dy dx]
    exact Prod.ext (lineOffset_snd_last hsteep) (lineOffset_fst hsteep le_rfl)

/-- No plot before the last is the other endpoint. -/
theorem lineOffset_ne_last {dx dy k : Nat} (hk : k < max dx dy) : lineOffset dx dy k ≠ ((dx : Int), (dy : Int)) := by
  intro h
  rw [Prod.ext_iff] at h
  obtain ⟨hcol, hrow⟩ := h
  obtain hflat | hsteep := le_total dy dx
  · rw [lineOffset_fst hflat (by omega)] at hcol
    omega
  · rw [lineOffset_snd hsteep (by omega)] at hrow
    omega

/-! ### The loop makes the plots of these columns and rows (42 R154) -/

/-- The order of 42 R154 in which the endpoints are put. -/
def LexLe (a b : Point) : Prop := a.1 < b.1 ∨ (a.1 = b.1 ∧ a.2 ≤ b.2)

/-- Whether rows count up or down from the first endpoint. -/
def lineSign (a b : Point) : Int := if a.2 < b.2 then 1 else -1

/-- The columns between the endpoints: `dx` of 42 R154. -/
def lineWidth (a b : Point) : Nat := (b.1 - a.1).natAbs

/-- The rows between the endpoints: `dy` of 42 R154. -/
def lineHeight (a b : Point) : Nat := (b.2 - a.2).natAbs

/-- The point at `d.1` columns and `d.2` rows from the first endpoint `a`. -/
def lineAt (a : Point) (sy : Int) (d : Int × Int) : Point := (a.1 + d.1, a.2 + sy * d.2)

theorem lexLess_iff (a b : Point) : lexLess b a = true ↔ b.1 < a.1 ∨ (b.1 = a.1 ∧ b.2 < a.2) := by
  simp [lexLess]

theorem lexLe_iff (a b : Point) : LexLe a b ↔ ¬ lexLess b a = true := by
  rw [lexLess_iff, LexLe]
  omega

theorem lexLe_total (a b : Point) : LexLe a b ∨ LexLe b a := by
  unfold LexLe
  omega

theorem lexLe_antisymm {a b : Point} (h : LexLe a b) (k : LexLe b a) : a = b := by
  unfold LexLe at h k
  exact Prod.ext (by omega) (by omega)

theorem linePoints_of_le {a b : Point} (h : LexLe a b) : linePoints a b = orderedLine a b :=
  if_neg ((lexLe_iff a b).mp h)

/-- A line is the same for both directions (42 R164 law 4). -/
theorem linePoints_comm (a b : Point) : linePoints a b = linePoints b a := by
  have hflip : ∀ {p q : Point}, LexLe p q → linePoints q p = orderedLine p q := by
    intro p q h
    by_cases hqp : LexLe q p
    · obtain rfl := lexLe_antisymm h hqp
      exact linePoints_of_le h
    · exact if_pos (not_not.mp (mt (lexLe_iff q p).mpr hqp))
  obtain h | h := lexLe_total a b
  · rw [linePoints_of_le h, hflip h]
  · rw [linePoints_of_le h, hflip h]

/-- The other endpoint is at `lineWidth` columns and `lineHeight` rows. -/
theorem lineAt_eq_right_iff {a b : Point} (h : LexLe a b) (d : Int × Int) :
    lineAt a (lineSign a b) d = b ↔ d = ((lineWidth a b : Int), (lineHeight a b : Int)) := by
  simp only [lineAt, lineSign, lineWidth, lineHeight, Prod.ext_iff]
  unfold LexLe at h
  split <;> omega

/-- How many steps a line takes. -/
def lineSteps (a b : Point) : Nat := max (lineWidth a b) (lineHeight a b)

/-- Plot `k` of the line from `a` to `b`, counted from 0. -/
def linePlot (a b : Point) (k : Nat) : Point :=
  lineAt a (lineSign a b) (lineOffset (lineWidth a b) (lineHeight a b) k)

theorem linePlot_zero (a b : Point) : linePlot a b 0 = a := by
  simp [linePlot, lineOffset, lineAt]

theorem linePlot_last {a b : Point} (h : LexLe a b) : linePlot a b (lineSteps a b) = b :=
  (lineAt_eq_right_iff h _).mpr (lineOffset_last ..)

theorem linePlot_ne_last {a b : Point} (h : LexLe a b) {k : Nat} (hk : k < lineSteps a b) : linePlot a b k ≠ b :=
  mt (lineAt_eq_right_iff h _).mp (lineOffset_ne_last hk)

/-- The loop of `orderedLine a b` before plot `k`, with `fuel` passes left. -/
def lineFrom (a b : Point) (fuel k : Nat) : List Point :=
  lineLoop b.1 b.2 (lineWidth a b) (lineHeight a b) (if a.1 < b.1 then 1 else -1) (lineSign a b) fuel
    (linePlot a b k).1 (linePlot a b k).2
    (lineErr (lineWidth a b) (lineHeight a b) (lineOffset (lineWidth a b) (lineHeight a b) k))

theorem orderedLine_eq (a b : Point) : orderedLine a b = lineFrom a b (lineSteps a b + 1) 0 := by
  have herr : lineErr (lineWidth a b) (lineHeight a b) (lineOffset (lineWidth a b) (lineHeight a b) 0) =
      lineWidth a b - lineHeight a b := by simp [lineErr, lineOffset]
  rw [lineFrom, linePlot_zero, herr]
  rfl

/-- The loop exits at the other endpoint. -/
theorem lineFrom_last {a b : Point} {k : Nat} (hk : linePlot a b k = b) (fuel : Nat) :
    lineFrom a b (fuel + 1) k = [b] := by
  rw [lineFrom, hk, lineLoop, if_pos ⟨rfl, rfl⟩]

/-- The update of `err` in one pass of 42 R154. -/
theorem lineErr_lineNext (dx dy : Nat) (d : Int × Int) :
    lineErr dx dy (lineNext dx dy d) =
      (if 2 * lineErr dx dy d < dx then
        (if 2 * lineErr dx dy d > -dy then lineErr dx dy d - dy else lineErr dx dy d) + dx
      else if 2 * lineErr dx dy d > -dy then lineErr dx dy d - dy else lineErr dx dy d) := by
  have herr := lineErr_eq dx dy d
  rw [lineErr_eq dx dy (lineNext dx dy d), lineDev_lineNext]
  split <;> split <;> omega

/-- The sign -1 of x is never used: with no column to take, the loop does not step in x. -/
theorem lineNext_fst_of_no_column {a b : Point} (h : LexLe a b) {k : Nat} (hk : k < lineSteps a b)
    (hcol : ¬ a.1 < b.1) :
    (lineNext (lineWidth a b) (lineHeight a b) (lineOffset (lineWidth a b) (lineHeight a b) k)).1 =
      (lineOffset (lineWidth a b) (lineHeight a b) k).1 := by
  have hwidth : lineWidth a b = 0 := by
    unfold LexLe at h
    unfold lineWidth
    omega
  obtain ⟨⟨hlo, hhi⟩, -⟩ := lineOffset_mem_box (k := k) (dx := lineWidth a b) (dy := lineHeight a b) hk.le
  obtain ⟨⟨hlo', hhi'⟩, -⟩ := lineOffset_mem_box (k := k + 1) (dx := lineWidth a b) (dy := lineHeight a b) hk
  rw [← lineOffset_succ]
  omega

/-- The update of x in one pass of 42 R154. -/
theorem lineAt_lineNext_fst (a : Point) {sx sy : Int} {dx dy : Nat} {d : Int × Int}
    (hsx : sx = 1 ∨ (lineNext dx dy d).1 = d.1) :
    (lineAt a sy (lineNext dx dy d)).1 =
      if 2 * lineErr dx dy d > -dy then (lineAt a sy d).1 + sx else (lineAt a sy d).1 := by
  simp only [lineAt, lineNext] at hsx ⊢
  by_cases hx : 2 * lineErr dx dy d > -dy
  · rw [if_pos hx] at hsx ⊢
    rw [if_pos hx]
    omega
  · rw [if_neg hx, if_neg hx, add_zero]

/-- The update of y in one pass of 42 R154. -/
theorem lineAt_lineNext_snd (a : Point) (sy : Int) (dx dy : Nat) (d : Int × Int) :
    (lineAt a sy (lineNext dx dy d)).2 =
      if 2 * lineErr dx dy d < dx then (lineAt a sy d).2 + sy else (lineAt a sy d).2 := by
  simp only [lineAt, lineNext, mul_add]
  split
  · rw [mul_one, add_assoc]
  · rw [mul_zero, add_zero]

/-- A pass before the other endpoint makes its plot and steps to the next. -/
theorem lineFrom_succ {a b : Point} (h : LexLe a b) {k : Nat} (hk : k < lineSteps a b) (fuel : Nat) :
    lineFrom a b (fuel + 1) k = linePlot a b k :: lineFrom a b fuel (k + 1) := by
  have hsx : (if a.1 < b.1 then (1 : Int) else -1) = 1 ∨
      (lineNext (lineWidth a b) (lineHeight a b) (lineOffset (lineWidth a b) (lineHeight a b) k)).1 =
        (lineOffset (lineWidth a b) (lineHeight a b) k).1 := by
    by_cases hcol : a.1 < b.1
    · exact .inl (if_pos hcol)
    · exact .inr (lineNext_fst_of_no_column h hk hcol)
  rw [lineFrom, lineLoop, if_neg fun he => linePlot_ne_last h hk (Prod.ext he.1 he.2), lineFrom, linePlot, linePlot,
    lineOffset_succ, lineErr_lineNext, lineAt_lineNext_fst a hsx, lineAt_lineNext_snd]

/-- The loop before plot `k` makes the plots from `k` on. -/
theorem lineFrom_eq {a b : Point} (h : LexLe a b) (m : Nat) {k : Nat} (hk : k + m = lineSteps a b) :
    lineFrom a b (m + 1) k = (List.range' k (m + 1)).map (linePlot a b) := by
  induction m generalizing k with
  | zero =>
    obtain rfl : k = _ := hk
    rw [lineFrom_last (linePlot_last h)]
    exact congrArg (fun q => [q]) (linePlot_last h).symm
  | succ m ih =>
    rw [lineFrom_succ h (by omega), ih (by omega), ← List.map_cons, ← List.range'_succ]

/-- The plots of the line from the first endpoint of the fixed order to the other (42 R154). -/
theorem linePoints_eq {a b : Point} (h : LexLe a b) :
    linePoints a b = (List.range (lineSteps a b + 1)).map (linePlot a b) := by
  rw [linePoints_of_le h, orderedLine_eq, lineFrom_eq h _ (Nat.zero_add _), List.range_eq_range']

theorem length_linePoints {a b : Point} (h : LexLe a b) : (linePoints a b).length = lineSteps a b + 1 := by
  rw [linePoints_eq h, List.length_map, List.length_range]

theorem getElem?_linePoints {a b : Point} (h : LexLe a b) {k : Nat} (hk : k ≤ lineSteps a b) :
    (linePoints a b)[k]? = some (linePlot a b k) := by
  rw [linePoints_eq h, List.getElem?_map, List.getElem?_range (Nat.lt_succ_of_le hk), Option.map_some]

theorem eq_linePlot_of_getElem? {a b p : Point} (h : LexLe a b) {k : Nat} (hp : (linePoints a b)[k]? = some p) :
    k ≤ lineSteps a b ∧ p = linePlot a b k := by
  obtain ⟨hlt, -⟩ := List.getElem?_eq_some_iff.mp hp
  rw [length_linePoints h, Nat.lt_succ_iff] at hlt
  exact ⟨hlt, Option.some.inj (hp.symm.trans (getElem?_linePoints h hlt))⟩

theorem mem_linePoints_iff {a b q : Point} (h : LexLe a b) :
    q ∈ linePoints a b ↔ ∃ k ≤ lineSteps a b, linePlot a b k = q := by
  simp [linePoints_eq h]

theorem head?_linePoints {a b : Point} (h : LexLe a b) : (linePoints a b).head? = some a := by
  rw [List.head?_eq_getElem?, getElem?_linePoints h (Nat.zero_le _), linePlot_zero]

theorem getLast?_linePoints {a b : Point} (h : LexLe a b) : (linePoints a b).getLast? = some b := by
  rw [List.getLast?_eq_getElem?, length_linePoints h, Nat.add_sub_cancel, getElem?_linePoints h le_rfl,
    linePlot_last h]

/-! ### The ends and the step of a line (42 R154) -/

theorem lineSign_mul_self (a b : Point) : lineSign a b * lineSign a b = 1 := by
  unfold lineSign
  split <;> rfl

/-- The rows from the first endpoint, read off a point. -/
theorem lineSign_mul_rows (a b : Point) (d : Int × Int) :
    lineSign a b * ((lineAt a (lineSign a b) d).2 - a.2) = d.2 := by
  rw [lineAt, add_sub_cancel_left, ← mul_assoc, lineSign_mul_self, one_mul]

theorem natCast_lineWidth {a b : Point} (h : LexLe a b) : (lineWidth a b : Int) = b.1 - a.1 := by
  unfold LexLe at h
  unfold lineWidth
  omega

/-- `err` at a plot, in the coordinates of the plane (42 R154). -/
theorem lineErr_lineAt {a b : Point} (h : LexLe a b) (d : Int × Int) :
    (lineSign a b * ((lineAt a (lineSign a b) d).2 - a.2) + 1) * (b.1 - a.1) -
        ((lineAt a (lineSign a b) d).1 - a.1 + 1) * (lineHeight a b : Int) =
      lineErr (lineWidth a b) (lineHeight a b) d := by
  rw [lineSign_mul_rows, ← natCast_lineWidth h, lineAt, add_sub_cancel_left, lineErr]

/-- Consecutive plots are one step of the error term apart (42 R154). -/
theorem linePlot_succ {a b : Point} (h : LexLe a b) (k : Nat) :
    let p := linePlot a b k
    let err := (lineSign a b * (p.2 - a.2) + 1) * (b.1 - a.1) - (p.1 - a.1 + 1) * (lineHeight a b : Int)
    linePlot a b (k + 1) =
      (p.1 + (if 2 * err > -(lineHeight a b : Int) then 1 else 0),
        p.2 + (if 2 * err < b.1 - a.1 then lineSign a b else 0)) := by
  dsimp only
  rw [linePlot, linePlot, lineErr_lineAt h, ← natCast_lineWidth h, lineOffset_succ]
  refine Prod.ext ?_ ?_
  · simp only [lineAt, lineNext, add_assoc]
  · simp only [lineAt, lineNext, mul_add, mul_ite, mul_one, mul_zero, add_assoc]

/-- Settles O37: the ends of a line in the fixed order, and `linePlot_succ`. -/
theorem lineEndsAtItsEndPoint : Obligations.LineEndsAtItsEndPoint := by
  refine ⟨fun a b => ?_, fun a b p q k h hp hq => ?_⟩
  · by_cases hflip : b.1 < a.1 ∨ (b.1 = a.1 ∧ b.2 < a.2)
    · have h : LexLe b a := hflip.imp_right fun hy => ⟨hy.1, hy.2.le⟩
      rw [if_pos hflip, if_pos hflip, linePoints_comm]
      refine ⟨?_, head?_linePoints h, getLast?_linePoints h⟩
      rw [length_linePoints h, lineSteps, lineWidth, lineHeight]
      omega
    · have h : LexLe a b := (lexLe_iff a b).mpr (mt (lexLess_iff a b).mp hflip)
      rw [if_neg hflip, if_neg hflip]
      exact ⟨length_linePoints h, head?_linePoints h, getLast?_linePoints h⟩
  · obtain ⟨-, rfl⟩ := eq_linePlot_of_getElem? h hp
    obtain ⟨-, rfl⟩ := eq_linePlot_of_getElem? h hq
    exact Prod.ext_iff.mp (linePlot_succ h k)

/-! ### The pixels of a line (42 R154, R155, R164) -/

theorem linePoints_self (a : Point) : linePoints a a = [a] := by
  have h : LexLe a a := .inr ⟨rfl, le_rfl⟩
  have hsteps : lineSteps a a = 0 := by simp [lineSteps, lineWidth, lineHeight]
  rw [linePoints_eq h, hsteps, List.range_one, List.map_singleton, linePlot_zero]

/-- Settles O38. -/
theorem lineIsSymmetricAndDegenerate : Obligations.LineIsSymmetricAndDegenerate :=
  ⟨linePoints_comm, linePoints_self⟩

/-- The box of two points, its border included. -/
def InBox (a b q : Point) : Prop :=
  min a.1 b.1 ≤ q.1 ∧ q.1 ≤ max a.1 b.1 ∧ min a.2 b.2 ≤ q.2 ∧ q.2 ≤ max a.2 b.2

theorem linePlot_inBox {a b : Point} (h : LexLe a b) {k : Nat} (hk : k ≤ lineSteps a b) :
    InBox a b (linePlot a b k) := by
  obtain ⟨⟨hleft, hright⟩, hfirst, hlast⟩ := lineOffset_mem_box hk
  rw [natCast_lineWidth h] at hright
  rw [linePlot]
  generalize lineOffset (lineWidth a b) (lineHeight a b) k = d at hleft hright hfirst hlast ⊢
  simp only [LexLe, InBox, lineAt, lineSign, lineHeight] at h hlast ⊢
  split <;> omega

/-- No point of a line leaves the box of its endpoints (42 R154). -/
theorem inBox_of_mem_linePoints {a b q : Point} (hq : q ∈ linePoints a b) : InBox a b q := by
  obtain h | h := lexLe_total a b
  · obtain ⟨k, hk, rfl⟩ := (mem_linePoints_iff h).mp hq
    exact linePlot_inBox h hk
  · rw [linePoints_comm] at hq
    obtain ⟨k, hk, rfl⟩ := (mem_linePoints_iff h).mp hq
    rw [InBox, min_comm a.1, max_comm a.1, min_comm a.2, max_comm a.2]
    exact linePlot_inBox h hk

/-- A horizontal line from left to right plots every pixel of its row. -/
theorem mem_linePoints_of_row {x0 x1 x : Int} (y : Int) (hleft : x0 ≤ x) (hright : x ≤ x1) :
    ((x, y) : Point) ∈ linePoints (x0, y) (x1, y) := by
  have h : LexLe (x0, y) (x1, y) := by
    simp only [LexLe]
    omega
  have hheight : lineHeight (x0, y) (x1, y) = 0 := by simp [lineHeight]
  have hwidth : (lineWidth (x0, y) (x1, y) : Int) = x1 - x0 := natCast_lineWidth h
  have hk : (x - x0).toNat ≤ lineWidth (x0, y) (x1, y) := by omega
  have hsteps : (x - x0).toNat ≤ lineSteps (x0, y) (x1, y) := hk.trans (le_max_left ..)
  have hcol : (linePlot (x0, y) (x1, y) (x - x0).toNat).1 = x0 + (x - x0).toNat := by
    rw [linePlot, lineAt, lineOffset_fst (hheight.trans_le (Nat.zero_le _)) hk]
  have hbox := linePlot_inBox h hsteps
  simp only [InBox] at hbox
  exact (mem_linePoints_iff h).mpr ⟨_, hsteps, Prod.ext (by omega) (by omega)⟩

/-- A vertical line upwards in y plots every pixel of its column. -/
theorem mem_linePoints_of_column {y0 y1 y : Int} (x : Int) (hfirst : y0 ≤ y) (hlast : y ≤ y1) :
    ((x, y) : Point) ∈ linePoints (x, y0) (x, y1) := by
  have h : LexLe (x, y0) (x, y1) := .inr ⟨rfl, hfirst.trans hlast⟩
  have hwidth : lineWidth (x, y0) (x, y1) = 0 := by simp [lineWidth]
  have hheight : (lineHeight (x, y0) (x, y1) : Int) = y1 - y0 := by
    simp only [lineHeight]
    omega
  have hk : (y - y0).toNat ≤ lineHeight (x, y0) (x, y1) := by omega
  have hsteps : (y - y0).toNat ≤ lineSteps (x, y0) (x, y1) := hk.trans (le_max_right ..)
  have hrow : (linePlot (x, y0) (x, y1) (y - y0).toNat).2 = y := by
    rw [linePlot, lineAt, lineOffset_snd (hwidth.trans_le (Nat.zero_le _)) hk]
    simp only [lineSign]
    split <;> omega
  have hbox := linePlot_inBox h hsteps
  simp only [InBox] at hbox
  exact (mem_linePoints_iff h).mpr ⟨_, hsteps, Prod.ext (by omega) hrow⟩

/-- A horizontal line is every pixel between its endpoints (42 R155). -/
theorem mem_linePoints_row (x0 x1 y : Int) (q : Point) :
    q ∈ linePoints (x0, y) (x1, y) ↔ q.2 = y ∧ min x0 x1 ≤ q.1 ∧ q.1 ≤ max x0 x1 := by
  constructor
  · intro hq
    have hbox := inBox_of_mem_linePoints hq
    simp only [InBox] at hbox
    omega
  · obtain ⟨x, y⟩ := q
    rintro ⟨rfl, hlo, hhi⟩
    obtain hle | hle := le_total x0 x1
    · exact mem_linePoints_of_row _ (by omega) (by omega)
    · rw [linePoints_comm]
      exact mem_linePoints_of_row _ (by omega) (by omega)

/-- A vertical line is every pixel between its endpoints (42 R155). -/
theorem mem_linePoints_column (x y0 y1 : Int) (q : Point) :
    q ∈ linePoints (x, y0) (x, y1) ↔ q.1 = x ∧ min y0 y1 ≤ q.2 ∧ q.2 ≤ max y0 y1 := by
  constructor
  · intro hq
    have hbox := inBox_of_mem_linePoints hq
    simp only [InBox] at hbox
    omega
  · obtain ⟨x, y⟩ := q
    rintro ⟨rfl, hlo, hhi⟩
    obtain hle | hle := le_total y0 y1
    · exact mem_linePoints_of_column _ (by omega) (by omega)
    · rw [linePoints_comm]
      exact mem_linePoints_of_column _ (by omega) (by omega)

/-- Settles O39. -/
theorem linesStayInTheBoxOfTheirEndpoints : Obligations.LinesStayInTheBoxOfTheirEndpoints :=
  ⟨fun _ _ _ => inBox_of_mem_linePoints, mem_linePoints_row, mem_linePoints_column⟩

/-! ### Rectangles (42 R156, R157) -/

/-- A filled rectangle is one span per row (42 R157). -/
theorem mem_filledRectPoints (a q : Point) (w h : Nat) :
    q ∈ filledRectPoints a w h ↔ a.1 ≤ q.1 ∧ q.1 ≤ a.1 + w - 1 ∧ a.2 ≤ q.2 ∧ q.2 ≤ a.2 + h - 1 := by
  unfold filledRectPoints
  split
  · simp only [List.not_mem_nil, false_iff]
    omega
  · simp only [List.mem_flatMap, List.mem_range, mem_linePoints_row]
    constructor
    · rintro ⟨r, hr, hrow, hleft, hright⟩
      omega
    · intro hq
      exact ⟨(q.2 - a.2).toNat, by omega⟩

/-- A rectangle is its top, bottom, left and right side (42 R156). -/
theorem mem_rectPoints (a q : Point) (w h : Nat) :
    q ∈ rectPoints a w h ↔
      (a.1 ≤ q.1 ∧ q.1 ≤ a.1 + w - 1 ∧ a.2 ≤ q.2 ∧ q.2 ≤ a.2 + h - 1) ∧
        (q.1 = a.1 ∨ q.1 = a.1 + w - 1 ∨ q.2 = a.2 ∨ q.2 = a.2 + h - 1) := by
  obtain ⟨x, y⟩ := a
  unfold rectPoints
  split
  · simp only [List.not_mem_nil, false_iff]
    omega
  · simp only [List.mem_append, mem_linePoints_row, mem_linePoints_column]
    omega

/-- Settles O40. -/
theorem rectanglesAreTheirBoxAndBorder : Obligations.RectanglesAreTheirBoxAndBorder :=
  fun a q w h => ⟨mem_filledRectPoints a q w h, mem_rectPoints a q w h⟩

end Sys2Proof.Machine
end

section
/-! ## Circles (42 R159..R161): the passes of the midpoint loop are the iterates of one step, and a filled circle is a
union of boxes -/

namespace Sys2Proof.Machine

/-! ### The midpoint loop (42 R159) -/

/-- The next pass's (x, y): y falls by 1 exactly when `f >= 0`, with `f` in closed form. -/
def passNext (r : Nat) (d : Int × Int) : Int × Int :=
  (d.1 + 1, if (r : Int) ^ 2 ≤ (d.1 + 1) ^ 2 + d.2 ^ 2 - d.2 then d.2 - 1 else d.2)

/-- The value of `f` before the pass from `d`. -/
def passF (r : Nat) (d : Int × Int) : Int := (d.1 + 1) ^ 2 + d.2 ^ 2 - d.2 - (r : Int) ^ 2

theorem passF_nonneg_iff (r : Nat) (d : Int × Int) :
    passF r d ≥ 0 ↔ (r : Int) ^ 2 ≤ (d.1 + 1) ^ 2 + d.2 ^ 2 - d.2 :=
  sub_nonneg

/-- The loop of 42 R159 before the pass from `d`, with `fuel` passes left. -/
def circleFrom (r fuel : Nat) (d : Int × Int) : List (Int × Int) :=
  circleSteps fuel (passF r d) (2 * d.1 + 1) (-2 * d.2) d.1 d.2

theorem circlePasses_eq (r : Nat) : circlePasses r = circleFrom r r (0, r) := by
  have hf : passF r (0, r) = 1 - r := by
    simp only [passF]
    ring
  rw [circlePasses, circleFrom, hf]
  rfl

/-- `f` after the updates of a pass from `d`, by whether y falls. -/
theorem passF_next (r : Nat) (d : Int × Int) (y : Int) :
    passF r (d.1 + 1, y) = passF r d + (2 * (d.1 + 1) + 1) + (y ^ 2 - y - (d.2 ^ 2 - d.2)) := by
  simp only [passF]
  ring

/-- A pass keeps `f`, `ddx` and `ddy` in closed form. -/
theorem circleFrom_succ (r fuel : Nat) {d : Int × Int} (h : d.1 < d.2) :
    circleFrom r (fuel + 1) d = passNext r d :: circleFrom r fuel (passNext r d) := by
  have hddx : 2 * (d.1 + 1) + 1 = 2 * d.1 + 1 + 2 := by ring
  rw [circleFrom, circleSteps, if_pos h, circleFrom, passNext, passF_next, hddx]
  dsimp only
  by_cases hf : passF r d ≥ 0
  · have hy : (d.2 - 1) ^ 2 - (d.2 - 1) - (d.2 ^ 2 - d.2) = -2 * d.2 + 2 := by ring
    have hddy : -2 * (d.2 - 1) = -2 * d.2 + 2 := by ring
    simp only [if_pos hf, if_pos ((passF_nonneg_iff r d).mp hf), hy, hddy, add_right_comm]
  · simp only [if_neg hf, if_neg (mt (passF_nonneg_iff r d).mpr hf), sub_self, add_zero]

theorem circleFrom_of_le (r fuel : Nat) {d : Int × Int} (h : d.2 ≤ d.1) : circleFrom r fuel d = [] := by
  cases fuel with
  | zero => rfl
  | succ fuel => rw [circleFrom, circleSteps, if_neg (not_lt.mpr h)]

/-! ### The passes, numbered: pass 0 is the start (0, r) -/

/-- (x, y) after `k` passes. -/
def pass (r k : Nat) : Int × Int := (passNext r)^[k] (0, (r : Int))

theorem pass_zero (r : Nat) : pass r 0 = (0, (r : Int)) := rfl

theorem pass_succ (r k : Nat) : pass r (k + 1) = passNext r (pass r k) := Function.iterate_succ_apply' ..

theorem pass_fst (r k : Nat) : (pass r k).1 = k := by
  induction k with
  | zero => rfl
  | succ k ih =>
    rw [pass_succ, passNext, ih]
    push_cast
    rfl

/-- A pass leaves y or lowers it by 1. -/
theorem pass_snd_succ (r k : Nat) : (pass r (k + 1)).2 ≤ (pass r k).2 ∧ (pass r k).2 - 1 ≤ (pass r (k + 1)).2 := by
  rw [pass_succ, passNext]
  split <;> omega

theorem pass_snd_antitone (r : Nat) : Antitone fun k => (pass r k).2 :=
  antitone_nat_of_succ_le fun k => (pass_snd_succ r k).1

theorem pass_snd_le (r k : Nat) : (pass r k).2 ≤ r := pass_snd_antitone r (Nat.zero_le k)

/-- The y of the passes skips no value. -/
theorem exists_pass_snd_eq (r : Nat) {k m : Nat} {v : Int} (hkm : k ≤ m) (hlow : (pass r m).2 ≤ v)
    (hhigh : v ≤ (pass r k).2) : ∃ j, k ≤ j ∧ j ≤ m ∧ (pass r j).2 = v := by
  induction m, hkm using Nat.le_induction with
  | base => exact ⟨k, le_rfl, le_rfl, le_antisymm hlow hhigh⟩
  | succ m hkm ih =>
    obtain h | h := le_or_gt (pass r m).2 v
    · obtain ⟨j, hkj, hjm, hj⟩ := ih h
      exact ⟨j, hkj, hjm.trans (Nat.le_succ m), hj⟩
    · have hstep := (pass_snd_succ r m).2
      exact ⟨m + 1, by omega, le_rfl, by omega⟩

theorem exists_pass_snd_le (r : Nat) : ∃ k : Nat, (pass r k).2 ≤ k := ⟨r, pass_snd_le r r⟩

/-- The number of passes: the loop's own condition `x < y` fails first after this many. -/
def passCount (r : Nat) : Nat := Nat.find (exists_pass_snd_le r)

theorem pass_passCount (r : Nat) : (pass r (passCount r)).2 ≤ passCount r := Nat.find_spec (exists_pass_snd_le r)

theorem lt_pass_snd {r k : Nat} (hk : k < passCount r) : (k : Int) < (pass r k).2 :=
  not_le.mp (Nat.find_min (exists_pass_snd_le r) hk)

theorem passCount_le (r : Nat) : passCount r ≤ r := Nat.find_min' (exists_pass_snd_le r) (pass_snd_le r r)

/-- Before pass `k + 1`, with enough fuel left, the loop makes the passes that are left. -/
theorem circleFrom_eq {r k : Nat} (m fuel : Nat) (hm : k + m = passCount r) (hfuel : m ≤ fuel) :
    circleFrom r fuel (pass r k) = (List.range' (k + 1) m).map (pass r) := by
  induction m generalizing k fuel with
  | zero =>
    obtain rfl : k = passCount r := hm
    exact circleFrom_of_le r fuel (by simpa only [pass_fst] using pass_passCount r)
  | succ m ih =>
    obtain ⟨fuel, rfl⟩ := Nat.exists_eq_add_of_lt hfuel
    have hlt : (pass r k).1 < (pass r k).2 := by simpa only [pass_fst] using lt_pass_snd (r := r) (k := k) (by omega)
    rw [circleFrom_succ r _ hlt, ← pass_succ, ih _ (by omega) (by omega), ← List.map_cons, ← List.range'_succ]

/-- The passes of the loop are passes 1 to `passCount` (42 R159). -/
theorem circlePasses_eq_map (r : Nat) : circlePasses r = (List.range' 1 (passCount r)).map (pass r) :=
  (circlePasses_eq r).trans (circleFrom_eq (k := 0) _ r (Nat.zero_add _) (passCount_le r))

theorem length_circlePasses (r : Nat) : (circlePasses r).length = passCount r := by
  rw [circlePasses_eq_map, List.length_map, List.length_range']

theorem getElem?_circlePasses {r k : Nat} {d : Int × Int} :
    (circlePasses r)[k]? = some d ↔ k < passCount r ∧ pass r (k + 1) = d := by
  rw [circlePasses_eq_map, List.getElem?_map]
  by_cases hk : k < passCount r
  · simp [hk, add_comm 1]
  · simp [hk]

theorem mem_circlePasses {r : Nat} {d : Int × Int} :
    d ∈ circlePasses r ↔ ∃ k, k < passCount r ∧ pass r (k + 1) = d := by
  simp only [List.mem_iff_getElem?, getElem?_circlePasses]

/-- The start and the passes together. -/
theorem getElem?_start_circlePasses {r k : Nat} {d : Int × Int}
    (h : ((0, (r : Int)) :: circlePasses r)[k]? = some d) : pass r k = d := by
  cases k with
  | zero => exact Option.some.inj h
  | succ k => exact (getElem?_circlePasses.mp h).2

/-- Settles O42. -/
theorem circleLoopEndsByItsCondition : Obligations.CircleLoopEndsByItsCondition := by
  refine fun r => ⟨?_, fun hr hnil => ?_, fun d hd => ?_, fun k d hd => ?_, fun k p d hp hd => ?_,
    fun k d hd hk => ?_⟩
  · rw [length_circlePasses]
    exact passCount_le r
  · have hcount : passCount r = 0 := by rw [← length_circlePasses, hnil, List.length_nil]
    have hend := pass_passCount r
    rw [hcount, pass_zero] at hend
    omega
  · rw [List.getLast?_eq_getElem?, getElem?_circlePasses, length_circlePasses] at hd
    obtain ⟨hpos, rfl⟩ := hd
    rw [Nat.sub_add_cancel (by omega), pass_fst]
    exact pass_passCount r
  · obtain ⟨-, rfl⟩ := getElem?_circlePasses.mp hd
    rw [pass_fst]
    exact ⟨Nat.cast_succ k, pass_snd_le r (k + 1)⟩
  · obtain rfl := getElem?_start_circlePasses hp
    obtain ⟨-, rfl⟩ := getElem?_circlePasses.mp hd
    exact pass_succ r k
  · obtain ⟨-, rfl⟩ := getElem?_circlePasses.mp hd
    rw [length_circlePasses] at hk
    rw [pass_fst]
    exact lt_pass_snd hk

/-- The start counts as pass 0. -/
theorem exists_pass_iff {r : Nat} {P : Int × Int → Prop} :
    (∃ k ≤ passCount r, P (pass r k)) ↔ P (0, (r : Int)) ∨ ∃ d ∈ circlePasses r, P d := by
  constructor
  · rintro ⟨k, hk, hP⟩
    cases k with
    | zero => exact .inl hP
    | succ k => exact .inr ⟨_, mem_circlePasses.mpr ⟨k, hk, rfl⟩, hP⟩
  · rintro (hP | ⟨d, hd, hP⟩)
    · exact ⟨0, Nat.zero_le _, hP⟩
    · obtain ⟨k, hk, rfl⟩ := mem_circlePasses.mp hd
      exact ⟨k + 1, hk, hP⟩

/-! ### The circle (42 R159, R160) -/

theorem mem_circlePoles (o q : Point) (r : Nat) :
    q ∈ circlePoles o r ↔
      q = (o.1, o.2 + r) ∨ q = (o.1, o.2 - r) ∨ q = (o.1 + r, o.2) ∨ q = (o.1 - r, o.2) := by
  simp only [circlePoles, List.mem_cons, List.not_mem_nil, or_false]

/-- `q` is one of the eight reflections about `o` of the point at `d` from it. -/
def Reflects (o : Point) (d : Int × Int) (q : Point) : Prop :=
  (q.1 = o.1 + d.1 ∨ q.1 = o.1 - d.1) ∧ (q.2 = o.2 + d.2 ∨ q.2 = o.2 - d.2) ∨
    (q.1 = o.1 + d.2 ∨ q.1 = o.1 - d.2) ∧ (q.2 = o.2 + d.1 ∨ q.2 = o.2 - d.1)

/-- The eight points of a pass (42 R159). -/
theorem mem_octantPoints (o q : Point) (d : Int × Int) : q ∈ octantPoints o d ↔ Reflects o d q := by
  simp only [octantPoints, Reflects, List.mem_cons, List.not_mem_nil, or_false, Prod.ext_iff]
  tauto

theorem mem_circlePoints (o q : Point) (r : Nat) :
    q ∈ circlePoints o r ↔
      q = (o.1, o.2 + r) ∨ q = (o.1, o.2 - r) ∨ q = (o.1 + r, o.2) ∨ q = (o.1 - r, o.2) ∨
        ∃ d ∈ circlePasses r, Reflects o d q := by
  simp only [circlePoints, List.mem_append, List.mem_flatMap, mem_octantPoints, mem_circlePoles, or_assoc]

/-- The poles are the reflections of pass 0. -/
theorem mem_circlePoints_iff_pass (o q : Point) (r : Nat) :
    q ∈ circlePoints o r ↔ ∃ k ≤ passCount r, Reflects o (pass r k) q := by
  have hpoles : Reflects o (0, (r : Int)) q ↔
      q = (o.1, o.2 + r) ∨ q = (o.1, o.2 - r) ∨ q = (o.1 + r, o.2) ∨ q = (o.1 - r, o.2) := by
    simp only [Reflects, Prod.ext_iff]
    omega
  rw [mem_circlePoints, exists_pass_iff (P := fun d => Reflects o d q), hpoles]
  simp only [or_assoc]

/-- Settles O41: each pass's reflections are closed under the reflections, pass 0's with them. -/
theorem circleIsEightWaySymmetric : Obligations.CircleIsEightWaySymmetric := by
  refine ⟨mem_circlePoints, fun o r dx dy h => ?_⟩
  simp only [mem_circlePoints_iff_pass] at h ⊢
  obtain ⟨k, hk, hrefl⟩ := h
  simp only [Reflects] at hrefl
  refine ⟨⟨k, hk, ?_⟩, ⟨k, hk, ?_⟩, ⟨k, hk, ?_⟩⟩ <;>
    simp only [Reflects] <;> omega

/-! ### The filled circle (42 R161) -/

/-- A pass stays in the quadrant: y falls only while x < y. -/
theorem pass_snd_nonneg {r k : Nat} (hk : k ≤ passCount r) : 0 ≤ (pass r k).2 := by
  cases k with
  | zero => exact Int.natCast_nonneg r
  | succ k =>
    have hlt := lt_pass_snd hk
    have hstep := (pass_snd_succ r k).2
    omega

/-- `q` is in one of the four spans of the pass at `d` (42 R161). -/
def InSpan (o : Point) (d : Int × Int) (q : Point) : Prop :=
  (q.2 = o.2 + d.2 ∨ q.2 = o.2 - d.2) ∧ o.1 - d.1 ≤ q.1 ∧ q.1 ≤ o.1 + d.1 ∨
    (q.2 = o.2 + d.1 ∨ q.2 = o.2 - d.1) ∧ o.1 - d.2 ≤ q.1 ∧ q.1 ≤ o.1 + d.2

theorem mem_octantSpans {o q : Point} {d : Int × Int} (hx : 0 ≤ d.1) (hy : 0 ≤ d.2) :
    q ∈ octantSpans o d ↔ InSpan o d q := by
  simp only [octantSpans, InSpan, List.mem_append, mem_linePoints_row]
  omega

/-- The passes lie in the quadrant, so that their spans run from left to right. -/
theorem exists_mem_octantSpans (o q : Point) (r : Nat) :
    (∃ d ∈ circlePasses r, q ∈ octantSpans o d) ↔ ∃ d ∈ circlePasses r, InSpan o d q := by
  refine exists_congr fun d => and_congr_right fun hd => ?_
  obtain ⟨k, hk, rfl⟩ := mem_circlePasses.mp hd
  refine mem_octantSpans ?_ (pass_snd_nonneg hk)
  rw [pass_fst]
  exact Int.natCast_nonneg _

theorem mem_filledCirclePoints (o q : Point) (r : Nat) :
    q ∈ filledCirclePoints o r ↔
      q = (o.1, o.2 + r) ∨ q = (o.1, o.2 - r) ∨ (q.2 = o.2 ∧ o.1 - r ≤ q.1 ∧ q.1 ≤ o.1 + r) ∨
        ∃ d ∈ circlePasses r, InSpan o d q := by
  simp only [filledCirclePoints, List.mem_append, List.mem_flatMap, exists_mem_octantSpans, mem_circlePoles,
    mem_linePoints_row, Prod.ext_iff, ← or_assoc]
  refine or_congr_left ?_
  omega

/-- The poles and the centre row are the spans of pass 0. -/
theorem mem_filledCirclePoints_iff_pass (o q : Point) (r : Nat) :
    q ∈ filledCirclePoints o r ↔ ∃ k ≤ passCount r, InSpan o (pass r k) q := by
  have hstart : InSpan o (0, (r : Int)) q ↔
      q = (o.1, o.2 + r) ∨ q = (o.1, o.2 - r) ∨ (q.2 = o.2 ∧ o.1 - r ≤ q.1 ∧ q.1 ≤ o.1 + r) := by
    simp only [InSpan, Prod.ext_iff]
    omega
  rw [mem_filledCirclePoints, exists_pass_iff (P := fun d => InSpan o d q), hstart]
  simp only [or_assoc]

/-- `q` is in one of the two boxes about `o` whose corners are the eight reflections of the pass at `d`. -/
def InPassBox (o : Point) (d : Int × Int) (q : Point) : Prop :=
  (q.1 - o.1).natAbs ≤ d.1 ∧ (q.2 - o.2).natAbs ≤ d.2 ∨ (q.1 - o.1).natAbs ≤ d.2 ∧ (q.2 - o.2).natAbs ≤ d.1

/-- A filled circle has no holes: a point in the boxes of a pass lies in a span of some pass. `u` and `v` are its
columns and rows from the centre. -/
theorem exists_span_of_box {r k u v : Nat} (hk : k ≤ passCount r)
    (hbox : (u : Int) ≤ k ∧ v ≤ (pass r k).2 ∨ u ≤ (pass r k).2 ∧ (v : Int) ≤ k) :
    ∃ j ≤ passCount r, v = (pass r j).2 ∧ u ≤ j ∨ v = j ∧ u ≤ (pass r j).2 := by
  obtain ⟨hu, hv⟩ | ⟨hu, hv⟩ := hbox
  · obtain hlow | hhigh := lt_or_ge (v : Int) (pass r (passCount r)).2
    · -- Below the last pass's row: pass `v` is an earlier one, and x < y before it.
      have hend := pass_passCount r
      have hlt := lt_pass_snd (r := r) (k := passCount r - 1) (by omega)
      have hmono : (pass r (passCount r - 1)).2 ≤ (pass r v).2 := pass_snd_antitone r (by omega)
      exact ⟨v, by omega, .inr ⟨rfl, by omega⟩⟩
    · obtain ⟨j, hkj, hj, hrow⟩ := exists_pass_snd_eq r hk hhigh hv
      exact ⟨j, hj, .inl ⟨hrow.symm, by omega⟩⟩
  · have hmono : (pass r k).2 ≤ (pass r v).2 := pass_snd_antitone r (by omega)
    exact ⟨v, by omega, .inr ⟨rfl, by omega⟩⟩

/-- A filled circle is the union of its passes' boxes. -/
theorem mem_filledCirclePoints_iff_box (o q : Point) (r : Nat) :
    q ∈ filledCirclePoints o r ↔ ∃ k ≤ passCount r, InPassBox o (pass r k) q := by
  rw [mem_filledCirclePoints_iff_pass]
  constructor
  · rintro ⟨k, hk, hspan⟩
    have hy := pass_snd_nonneg hk
    refine ⟨k, hk, ?_⟩
    simp only [InSpan, InPassBox, pass_fst] at hspan ⊢
    omega
  · rintro ⟨k, hk, hbox⟩
    rw [InPassBox, pass_fst] at hbox
    obtain ⟨j, hj, hspan⟩ := exists_span_of_box hk hbox
    refine ⟨j, hj, ?_⟩
    simp only [InSpan, pass_fst]
    omega

/-- A reflection of a pass is the end of one of its spans. -/
theorem mem_filledCirclePoints_of_mem_circlePoints {o q : Point} {r : Nat} (h : q ∈ circlePoints o r) :
    q ∈ filledCirclePoints o r := by
  obtain ⟨k, hk, hrefl⟩ := (mem_circlePoints_iff_pass o q r).mp h
  have hy := pass_snd_nonneg hk
  refine (mem_filledCirclePoints_iff_pass o q r).mpr ⟨k, hk, ?_⟩
  simp only [Reflects, InSpan, pass_fst] at hrefl ⊢
  omega

/-- With radius 0 the loop makes no pass (42 R160). -/
theorem mem_circles_zero (o q : Point) : (q ∈ filledCirclePoints o 0 ↔ q = o) ∧ (q ∈ circlePoints o 0 ↔ q = o) := by
  have hnone : circlePasses 0 = [] := rfl
  simp only [mem_filledCirclePoints, mem_circlePoints, hnone, List.not_mem_nil, false_and, exists_false, or_false,
    Prod.ext_iff]
  omega

/-- Settles O43: the boxes of a pass are closed under the reflections. -/
theorem filledCircleContainsTheCircle : Obligations.FilledCircleContainsTheCircle := by
  refine ⟨mem_filledCirclePoints, fun o q r => mem_filledCirclePoints_of_mem_circlePoints, fun o r dx dy h => ?_,
    mem_circles_zero⟩
  simp only [mem_filledCirclePoints_iff_box] at h ⊢
  obtain ⟨k, hk, hbox⟩ := h
  simp only [InPassBox] at hbox
  refine ⟨⟨k, hk, ?_⟩, ⟨k, hk, ?_⟩, ⟨k, hk, ?_⟩⟩ <;>
    simp only [InPassBox] <;> omega

end Sys2Proof.Machine
end

section
/-! ## What a bus command writes to the RAMs: nothing to FB, and to STAGE only the byte that the DATA step of a read
transaction got (10 R35, 40 R101, R107, 60 R173) -/

namespace Sys2Proof.Machine

/-! ### STAGE under one step of a bus command (40 R101) -/

/-- What a step of the bus command `c` at `pos` does to STAGE: it leaves it alone, or it stores the byte that the DATA
phase of a read transaction got (40 R101). -/
inductive StageEffect (c : BusCmd) (pos : Option Pos) (s t : State) : Prop
  | kept (h : t.stage = s.stage)
  | stored (p : Pos) (a8 : Byte) (off n : Nat) (v : Byte) (hpos : pos = some p)
    (hx : c.current p = some (.read a8 off n)) (hph : p.phase = .data) (hans : s.nextAnswer = .byteIn v)
    (ht : t.stage = (s.writeByte .stage (off + p.byte) v).stage)

theorem State.writeByte_stage_congr {s u : State} (h : u.stage = s.stage) (a : Nat) (v : Byte) :
    (u.writeByte .stage a v).stage = (s.writeByte .stage a v).stage := by
  unfold State.writeByte
  split
  · simp [State.cells, h]
  · exact h

/-- However a bus command goes on or ends after its poll, STAGE stays as the poll left it. -/
theorem BusOutcome.stage {c : BusCmd} {l : Latch} {u t : State} (h : BusOutcome c l u t) : t.stage = u.stage := by
  cases h <;> rfl

/-- Only the end of a DATA phase stores anything (40 R99, R101). -/
theorem endPhase_stage (c : BusCmd) (l : Latch) (x : Xact) (p : Pos) (a : Answer) (s : State) :
    (endPhase c l x p a s).stage = if p.phase = .data then (storeReceived x p.byte a s).stage else s.stage := by
  unfold endPhase
  cases p.phase with
  | busyWait | start | addr | data => rfl
  | stop => exact (endTransaction_outcome c l p s).stage

theorem stageEffect_endPhase {c : BusCmd} (l : Latch) {x : Xact} {p p' : Pos} {s u : State} (hx : c.current p = some x)
    (hph : p'.phase = p.phase) (hbyte : p'.byte = p.byte) (hu : u.stage = s.stage) :
    StageEffect c (some p) s (endPhase c l x p' s.nextAnswer u) := by
  have hend := endPhase_stage c l x p' s.nextAnswer u
  rw [hph, hbyte] at hend
  split at hend
  next hdata =>
    unfold storeReceived at hend
    split at hend
    next a8 off n v hans =>
      exact .stored p a8 off n v rfl hx hdata hans (hend.trans (State.writeByte_stage_congr hu ..))
    next => exact .kept (hend.trans hu)
  next => exact .kept (hend.trans hu)

theorem stageEffect_busPoll (P : Params) (c : BusCmd) (l : Latch) (p : Pos) (s : State) :
    StageEffect c (some p) s (busPoll P c l p s) := by
  cases hx : c.current p with
  | none =>
    simp only [busPoll, hx]
    exact .kept rfl
  | some x =>
    have hstage : (pollState s x p).stage = s.stage := by rw [pollState_eq]
    rw [busPoll_eq P l s hx]
    obtain ⟨-, h⟩ | ⟨-, -, h⟩ | ⟨-, -, h⟩ := pollPhase_cases c l x (pollPos P c s p) (pollState s x p) <;> rw [h]
    · rw [pollState_nextAnswer]
      exact stageEffect_endPhase l hx (pollPos_phase ..) (pollPos_byte ..) (by simp [hstage])
    · exact .kept ((State.takeAnswer_stage _).trans hstage)
    · exact .kept ((State.takeAnswer_stage _).trans hstage)

/-- A command's first poll is of BUSY_WAIT, so it stores nothing (40 R93, R95). -/
theorem busPoll_first_stage (P : Params) (c : BusCmd) (l : Latch) (j : Job) (s : State) :
    (busPoll P c l (Pos.first j) s).stage = s.stage := by
  cases stageEffect_busPoll P c l (Pos.first j) s with
  | kept h => exact h
  | stored p a8 off n v hpos hx hph =>
    cases hpos
    cases hph

theorem stageEffect_busStep (P : Params) (legal : Bool) (c : BusCmd) (l : Latch) (pos : Option Pos) (s : State) :
    StageEffect c pos s (busStep P legal c l pos s) := by
  cases pos with
  | some p => exact stageEffect_busPoll P c l p s
  | none =>
    refine .kept ?_
    unfold busStep busBegin
    dsimp only
    split
    · split
      · split
        · split
          · rfl
          · exact busPoll_first_stage ..
        · exact busPoll_first_stage ..
      · rfl
    · rfl

/-! ### Only RECEIVE reads from the bus (40 R107, 41 R121) -/

theorem BusCmd.current_cases {c : BusCmd} {p : Pos} {x : Xact} (h : c.current p = some x) :
    (∃ a8, x = .probe a8) ∨ x ∈ c.items := by
  unfold BusCmd.current at h
  split at h
  · obtain ⟨pr, -, rfl⟩ := Option.map_eq_some_iff.mp h
    exact .inl ⟨_, rfl⟩
  · exact .inr (List.mem_of_getElem? h)

theorem busCmdOf_items_write {i : Instr} {l : Latch} {s : State} {c : BusCmd} (hi : i ≠ .receive)
    (hb : busCmdOf i l s = some c) : ∀ x ∈ c.items, ∃ a8 pl, x = .write a8 pl := by
  have hcmd : ∀ bs : List Byte, ∀ x ∈ bs.map (cmdX l), ∃ a8 pl, x = .write a8 pl := fun bs x hx => by
    obtain ⟨b, -, rfl⟩ := List.mem_map.mp hx
    exact ⟨_, _, rfl⟩
  have hpage : ∀ k, ∀ x ∈ pageItems Config.params l k, ∃ a8 pl, x = .write a8 pl := fun k x hx => by
    obtain rfl | hx := List.mem_cons.mp hx
    · exact ⟨_, _, rfl⟩
    · obtain hx | hx := List.mem_append.mp hx
      · exact hcmd _ x hx
      · exact ⟨_, _, List.mem_singleton.mp hx⟩
  cases i <;> cases hb
  case receive => exact absurd rfl hi
  case transmit | isDeviceReady => simp [transmitCmd, isDeviceReadyCmd]
  case updateScreen =>
    intro x hx
    obtain ⟨k, -, hx⟩ := List.mem_flatMap.mp hx
    exact hpage k x hx
  all_goals exact hcmd _

theorem busCmdOf_current_ne_read {i : Instr} {l : Latch} {s : State} {c : BusCmd} (hi : i ≠ .receive)
    (hb : busCmdOf i l s = some c) (p : Pos) (a8 : Byte) (off n : Nat) : c.current p ≠ some (.read a8 off n) := by
  intro h
  obtain ⟨b, hx⟩ | hmem := BusCmd.current_cases h
  · cases hx
  · obtain ⟨b, pl, hx⟩ := busCmdOf_items_write hi hb _ hmem
    cases hx

theorem receiveCmd_current {l : Latch} {p : Pos} {a8 : Byte} {off n : Nat}
    (h : (receiveCmd l).current p = some (.read a8 off n)) : off = l.off2 := by
  obtain ⟨b, hx⟩ | hmem := BusCmd.current_cases h
  · cases hx
  · cases List.mem_singleton.mp hmem
    rfl

/-! ### What a command leaves of the RAMs (10 R35, 60 R173) -/

/-- The frame of a bus command's step, whatever it is answered (60 R173). -/
theorem busFrame_exec {i : Instr} {s t : State} (hbus : usesBus i = true) (hx : exec i s = .next t) : BusFrame s t := by
  obtain ⟨l, p, he, -⟩ := exec_cases hx
  obtain ⟨c, hb⟩ := exists_busCmdOf hbus l s
  obtain rfl := Host.Outcome.next.inj ((exec_busStep he hb).symm.trans hx)
  exact busFrame_busStep ..

/-- A command other than RECEIVE leaves STAGE alone (10 R35). -/
theorem exec_stage_of_ne_receive {i : Instr} {s t : State} (hi : i ≠ .receive) (hx : exec i s = .next t) :
    t.stage = s.stage := by
  obtain ⟨l, p, -, hk⟩ := exec_cases hx
  cases hk with
  | bus c legal hb ht =>
    rw [ht]
    cases stageEffect_busStep Config.params legal c l p s with
    | kept h => exact h
    | stored q a8 off n v hpos hread => exact absurd hread (busCmdOf_current_ne_read hi hb q a8 off n)
  | init duty hi ht => rw [ht, busInit_eq]
  | draws hb hi hc ht => exact ht.keeps.2

/-- RECEIVE leaves every byte of STAGE alone but the one at OFF plus the index of a byte it got (40 R101, R107). -/
theorem exec_receive_readByte_stage {s t : State} {l : Latch} {pos : Option Pos} (he : s.eng = .exec l pos)
    (hx : exec .receive s = .next t) {a : Nat}
    (ha : ∀ p v, pos = some p → p.phase = .data → s.nextAnswer = .byteIn v → a ≠ l.off2 + p.byte) :
    t.readByte .stage a = s.readByte .stage a := by
  have hdraw : t.ramDraw = s.ramDraw := (busFrame_exec rfl hx).ramDraw
  obtain rfl := Host.Outcome.next.inj ((exec_busStep he rfl).symm.trans hx)
  cases stageEffect_busStep Config.params (operandsLegal .receive l) (receiveCmd l) l pos s with
  | kept h => exact State.readByte_congr (sp := .stage) h hdraw a
  | stored p a8 off n v hpos hread hph hans ht =>
    obtain rfl := receiveCmd_current hread
    calc
      _ = (s.writeByte .stage (l.off2 + p.byte) v).readByte .stage a :=
        State.readByte_congr (sp := .stage) ht (hdraw.trans (State.writeByte_ramDraw ..).symm) a
      _ = s.readByte .stage a := State.readByte_writeByte_ne s .stage v (ha p v hpos hph hans)

/-- Settles O47: FB and CURSOR by the frame of a bus step, STAGE by the one byte a read transaction stores. -/
theorem busCommandsLeaveTheFramebuffer : Obligations.BusCommandsLeaveTheFramebuffer := by
  refine ⟨fun i s t hbus hx => ?_, fun i s t => exec_stage_of_ne_receive, fun s t l p he hx a =>
    exec_receive_readByte_stage he hx⟩
  have hframe := busFrame_exec hbus hx
  exact ⟨hframe.fb, hframe.cursor⟩

end Sys2Proof.Machine
end

section
/-! ## Reset, and the busy and the halted CORE (70 R191, R195, R200, 20 R53) -/

namespace Sys2Proof.Machine

/-! ### The RAMs after a reset (70 R191) -/

/-- A RAM nothing has been written to reads as the reset's draw (70 R191, log 3). -/
theorem State.readByte_of_cells_nil {s : State} {sp : Space} (h : s.cells sp = []) (a : Nat) :
    s.readByte sp a = Config.ramAtReset sp s.ramDraw a := by
  rw [State.readByte, h]
  rfl

theorem cells_reset (sp : Space) : State.reset.cells sp = [] := by
  cases sp <;> rfl

theorem cells_resetStep (s : State) (sp : Space) : (resetStep s).cells sp = [] := by
  cases sp <;> rfl

/-- Settles O58: a reset leaves both RAMs without a written cell. -/
theorem resetDrawsTheRams : Obligations.ResetDrawsTheRams :=
  fun s sp a =>
    ⟨State.readByte_of_cells_nil (cells_resetStep s sp) a, State.readByte_of_cells_nil (cells_reset sp) a⟩

/-! ### A window access while BUSY is 1 (70 R195, 20 R53) -/

/-- An access inside the windows is misplaced when it is misaligned (20 R53). -/
theorem misplaced_window_iff {off : BitVec 12} (hlo : 0x400 ≤ off.toNat) (hhi : off.toNat < 0x900) (w : Width) :
    Misplaced off w ↔ off.toNat % w.bytes ≠ 0 := by
  rw [Misplaced, if_pos ⟨hlo, hhi⟩]

/-- Settles O55: the access has a violation, and `mem_violations` gives its records. -/
theorem windowsAreClosedWhileBusy : Obligations.WindowsAreClosedWhileBusy := by
  intro s off w v hbusy hlo hhi d
  have hmem : ∀ r, r ∈ violations s off w d ↔
      r = .hostAccessWhileBusy off d ∨ (off.toNat % w.bytes ≠ 0 ∧ r = .hostBadAccess off w d) := fun r => by
    rw [mem_violations, misplaced_window_iff hlo hhi, or_comm]
    simp only [hbusy, hlo, hhi, true_and]
  have hclosed : .hostAccessWhileBusy off d ∈ violations s off w d := (hmem _).mpr (.inl rfl)
  refine ⟨(s.recordAll (violations s off w d)).faults, ?_, (mem_recordAll ..).mpr (.inr hclosed), fun r => ?_⟩
  · cases d <;> exact hostAccess_violating v (List.ne_nil_of_mem hclosed)
  · rw [mem_recordAll, hmem]

/-! ### The halted CORE (70 R200) -/

/-- What every step but reset keeps of a halted CORE: the halt and CMD, and OVERRUN is not set (70 R200). -/
structure StaysHalted (s t : State) : Prop where
  halted : t.status.halted = true
  cmd : t.cmd = s.cmd
  overrun : t.status.overrun = true → s.status.overrun = true

theorem StaysHalted.of_eq {s t : State} (h : s.status.halted = true) (hstatus : t.status = s.status)
    (hcmd : t.cmd = s.cmd) : StaysHalted s t :=
  ⟨by rw [hstatus, h], hcmd, by rw [hstatus]; exact id⟩

theorem StaysHalted.trans {s u t : State} (h : StaysHalted s u) (k : StaysHalted u t) : StaysHalted s t :=
  ⟨k.halted, k.cmd.trans h.cmd, h.overrun ∘ k.overrun⟩

theorem recordAll_cmd (s : State) (rs : List FaultRecord) : (s.recordAll rs).cmd = s.cmd := by
  rw [recordAll_eq]

theorem writeBytes_cmd (s : State) (sp : Space) (a : Nat) (bs : List Byte) : (s.writeBytes sp a bs).cmd = s.cmd := by
  rw [State.writeBytes_eq, State.setCells_cmd]

/-- A halted CORE drops a CMD write (40 R92 case 1). -/
theorem writeCmd_of_halted {s : State} (h : s.status.halted = true) (v : Word) : s.writeCmd v = s :=
  if_pos h

/-- No host access changes CMD of a halted CORE (40 R92). -/
theorem hostAccess_cmd_of_halted {s : State} (h : s.status.halted = true) (op : HostOp) :
    (hostAccess s op).cmd = s.cmd := by
  cases hostAccess_cases s op with
  | recorded rs ht => rw [ht, State.handBack_cmd, recordAll_cmd]
  | read v ht => rw [ht, State.handBack_cmd]
  | windowWrite sp a bs ht => rw [ht, State.handBack_cmd, writeBytes_cmd]
  | regWrite off v r hop hr ht =>
    rw [ht, State.handBack_cmd]
    cases r
    case cmd => rw [Machine.regWrite, writeCmd_of_halted h]
    case status => rw [Machine.regWrite, writeStatus_eq]
    all_goals rfl

/-- Of the four things an access can do to STATUS, two need a CORE that is not halted (10 R25, 40 R92). -/
theorem staysHalted_hostAccess {s : State} (h : s.status.halted = true) (op : HostOp) :
    StaysHalted s (hostAccess s op) := by
  have hcmd := hostAccess_cmd_of_halted h op
  obtain hst | ⟨hn, -⟩ | ⟨hn, -⟩ | ⟨-, hst⟩ := hostAccess_status s op
  · exact .of_eq h hst hcmd
  · cases h.symm.trans hn
  · cases h.symm.trans hn
  · exact ⟨by rw [hst]; exact h, hcmd, by rw [hst]; exact nofun⟩

theorem staysHalted_hostStep {s : State} (h : s.status.halted = true) (base : Nat) (acc : HostAccess) :
    StaysHalted s (hostStep base acc s) := by
  obtain ⟨op, -, hs⟩ | ⟨-, hs⟩ := hostStep_cases base acc s <;> rw [hs]
  · exact staysHalted_hostAccess h op
  · exact .of_eq h rfl rfl

/-- In IDLE the engine has no step (60 R185). -/
theorem engineStep_idle {s : State} (h : s.eng = .idle) : engineStep s = .next s := by
  simp only [engineStep, h]

theorem staysHalted_popEvent {s : State} (h : s.status.halted = true) : StaysHalted s (popEvent s) := by
  rw [popEvent_eq]
  exact .of_eq h rfl rfl

/-- Every agent but reset leaves the CORE halted: the engine rests in IDLE, where no poll is owed. -/
theorem staysHalted_step {s t : State} (h : StateInv s) (hh : s.status.halted = true) (hne : nextEvent s ≠ .reset)
    (hx : step s = .next t) : StaysHalted s t := by
  have hpop := staysHalted_popEvent hh
  obtain ⟨hidle, -⟩ := h.popEvent.halt hpop.halted
  refine hpop.trans ?_
  obtain ⟨acc, -, hs⟩ | ⟨-, hs⟩ | ⟨-, howes, -⟩ | ⟨-, -, hs⟩ | ⟨hr, -⟩ := step_cases s
  · cases hs.symm.trans hx
    exact staysHalted_hostStep hpop.halted ..
  · rw [engineStep_idle hidle] at hs
    cases hs.symm.trans hx
    exact .of_eq hpop.halted rfl rfl
  · obtain ⟨l, p, tp, he, -⟩ := (owesPoll_iff _).mp howes
    cases hidle.symm.trans he
  · cases hs.symm.trans hx
    exact .of_eq hpop.halted rfl rfl
  · exact absurd hr hne

/-- Settles O15: HALTED stays 1, so the invariant of the next state (O60) gives ERR, IDLE and the fault. -/
theorem theHaltIsForGood : Obligations.TheHaltIsForGood := by
  refine ⟨fun s t h hh hne hx => ?_, fun s => rfl⟩
  obtain ⟨halted, cmd, overrun⟩ := staysHalted_step h hh hne hx
  obtain ⟨hidle, herr, -, hfault⟩ := (everyStepKeepsTheInvariant s t h hx).halt halted
  exact ⟨halted, herr, hidle, hfault, cmd, overrun⟩

end Sys2Proof.Machine
end

section
/-! ## A running command does not read what the host writes beside it: every operation of the engine commutes with a
write of the ARG, TO and DISP_ADDR registers, since the command works on its latched copies (20 R63, 40 R92, 70 R196) -/

namespace Sys2Proof.Machine

/-- The registers that acceptance copies for the command, CMD apart (10 R39, 40 R92). -/
structure OperandRegs where
  arg0 : Word
  arg1 : Word
  arg2 : Word
  toFlag : Word
  toBusy : Word
  toStop : Word
  dispAddr : Byte

/-- Those registers with the values of `o`, everything else as before. -/
def State.setOperands (s : State) (o : OperandRegs) : State :=
  { s with arg0 := o.arg0, arg1 := o.arg1, arg2 := o.arg2, toFlag := o.toFlag, toBusy := o.toBusy
           toStop := o.toStop, dispAddr := o.dispAddr }

/-- Completion does not write them (40 R94). -/
theorem complete_setOperands (s : State) (o : OperandRegs) (code : ErrCode) (pending info : Word) :
    (s.setOperands o).complete code pending info = (s.complete code pending info).setOperands o :=
  rfl

theorem complete_setFb_setOperands (s : State) (o : OperandRegs) (m : Memory) (code : ErrCode) (pending info : Word) :
    ({ s.setOperands o with fb := m } : State).complete code pending info =
      (({ s with fb := m } : State).complete code pending info).setOperands o :=
  rfl

/-! ### The RAMs and drawing (41 R128..R130, 42 R150) -/

theorem writeByte_setOperands (s : State) (o : OperandRegs) (sp : Space) (a : Nat) (v : Byte) :
    (s.setOperands o).writeByte sp a v = (s.writeByte sp a v).setOperands o := by
  unfold State.writeByte
  cases sp <;> split <;> rfl

theorem plot_setOperands (c : Color) (s : State) (pt : Point) (o : OperandRegs) :
    plot c (s.setOperands o) pt = (plot c s pt).setOperands o := by
  unfold plot
  split
  · exact writeByte_setOperands ..
  · rfl

theorem plotAll_setOperands (c : Color) (pts : List Point) (s : State) (o : OperandRegs) :
    plotAll c pts (s.setOperands o) = (plotAll c pts s).setOperands o :=
  List.foldl_hom (State.setOperands · o) fun u pt => plot_setOperands c u pt o

theorem draw_setOperands (c : Color) (pts : List Point) (s : State) (o : OperandRegs) :
    draw c pts (s.setOperands o) = (draw c pts s).setOperands o := by
  rw [draw, draw, plotAll_setOperands, complete_setOperands]

theorem putGlyph_setOperands (f : Font) (c : Color) (ch : Byte) (s : State) (o : OperandRegs) :
    putGlyph f c ch (s.setOperands o) = (putGlyph f c ch s).map (State.setOperands · o) := by
  have hcursor : (s.setOperands o).cursor = s.cursor := rfl
  unfold putGlyph
  dsimp only
  rw [hcursor, plotAll_setOperands]
  split <;> rfl

theorem putcStep_setOperands (font : Option Font) (c : Color) (l : Latch) (s : State) (o : OperandRegs) :
    putcStep font c l (s.setOperands o) = (putcStep font c l s).setOperands o := by
  cases font with
  | none => rfl
  | some f =>
    rw [putcStep, putcStep, putGlyph_setOperands]
    cases putGlyph f c l.char s <;> rfl

theorem putsLoop_setOperands (f : Font) (c : Color) (fuel k : Nat) (s : State) (o : OperandRegs) :
    putsLoop f c fuel k (s.setOperands o) = (putsLoop f c fuel k s).setOperands o := by
  induction fuel generalizing k s with
  | zero => rfl
  | succ fuel ih =>
    have hread : (s.setOperands o).readByte .stage k = s.readByte .stage k := rfl
    rw [putsLoop, putsLoop, hread, putGlyph_setOperands]
    split
    · rfl
    · cases putGlyph f c (s.readByte .stage k) s with
      | none => rfl
      | some u => exact ih (k + 1) u

theorem putsStep_setOperands (font : Option Font) (c : Color) (l : Latch) (s : State) (o : OperandRegs) :
    putsStep font c l (s.setOperands o) = (putsStep font c l s).setOperands o := by
  cases font with
  | none => rfl
  | some f => exact putsLoop_setOperands ..

/-! ### One step of a bus command (40 R93..R102) -/

theorem phaseAction_setOperands (s : State) (o : OperandRegs) (x : Xact) (ph : Phase) (i : Nat) :
    phaseAction (s.setOperands o) x ph i = phaseAction s x ph i := by
  cases x with
  | write a8 pl => cases pl <;> rfl
  | _ => rfl

theorem pollState_setOperands (s : State) (o : OperandRegs) (x : Xact) (p : Pos) :
    pollState (s.setOperands o) x p = (pollState s x p).setOperands o := by
  unfold pollState
  rw [phaseAction_setOperands]
  cases p.since with
  | none => cases phaseAction s x p.phase p.byte <;> rfl
  | some tp => rfl

theorem storeReceived_setOperands (x : Xact) (i : Nat) (a : Answer) (s : State) (o : OperandRegs) :
    storeReceived x i a (s.setOperands o) = (storeReceived x i a s).setOperands o := by
  unfold storeReceived
  split
  · exact writeByte_setOperands ..
  · rfl

theorem nextItem_setOperands (c : BusCmd) (l : Latch) (p : Pos) (i : Nat) (s : State) (o : OperandRegs) :
    nextItem c l p i (s.setOperands o) = (nextItem c l p i s).setOperands o := by
  unfold nextItem
  split <;> rfl

theorem endTransaction_setOperands (c : BusCmd) (l : Latch) (p : Pos) (s : State) (o : OperandRegs) :
    endTransaction c l p (s.setOperands o) = (endTransaction c l p s).setOperands o := by
  unfold endTransaction
  split
  · exact nextItem_setOperands ..
  · split
    · exact nextItem_setOperands ..
    · split <;> rfl

theorem endPhase_setOperands (c : BusCmd) (l : Latch) (x : Xact) (p : Pos) (a : Answer) (s : State)
    (o : OperandRegs) : endPhase c l x p a (s.setOperands o) = (endPhase c l x p a s).setOperands o := by
  unfold endPhase
  cases p.phase with
  | busyWait | start | addr => rfl
  | data =>
    dsimp only
    rw [storeReceived_setOperands]
    rfl
  | stop => exact endTransaction_setOperands ..

theorem takeAnswer_setOperands (s : State) (o : OperandRegs) :
    (s.setOperands o).takeAnswer = s.takeAnswer.setOperands o := by
  unfold State.takeAnswer State.setOperands
  cases s.answers <;> rfl

theorem pollPhase_setOperands (c : BusCmd) (l : Latch) (x : Xact) (p : Pos) (s : State) (o : OperandRegs) :
    pollPhase c l x p (s.setOperands o) = (pollPhase c l x p s).setOperands o := by
  have hnext : (s.setOperands o).nextAnswer = s.nextAnswer := rfl
  have helapsed : elapsed (s.setOperands o) p = elapsed s p := rfl
  unfold pollPhase
  rw [takeAnswer_setOperands, hnext, helapsed]
  dsimp only
  split
  · exact endPhase_setOperands c l x p s.nextAnswer (s.takeAnswer.consume s.nextAnswer) o
  · split <;> rfl

theorem busPoll_setOperands (P : Params) (c : BusCmd) (l : Latch) (p : Pos) (s : State) (o : OperandRegs) :
    busPoll P c l p (s.setOperands o) = (busPoll P c l p s).setOperands o := by
  cases h : c.current p with
  | none =>
    simp only [busPoll, h]
    rfl
  | some x =>
    have hpos : pollPos P c (s.setOperands o) p = pollPos P c s p := rfl
    rw [busPoll_eq P l _ h, busPoll_eq P l s h, hpos, pollState_setOperands, pollPhase_setOperands]

theorem busBegin_setOperands (P : Params) (c : BusCmd) (l : Latch) (s : State) (o : OperandRegs) :
    busBegin P c l (s.setOperands o) = (busBegin P c l s).setOperands o := by
  unfold busBegin
  split
  · split
    · rfl
    · exact busPoll_setOperands ..
  · exact busPoll_setOperands ..

theorem busStep_setOperands (P : Params) (legal : Bool) (c : BusCmd) (l : Latch) (pos : Option Pos) (s : State)
    (o : OperandRegs) :
    busStep P legal c l pos (s.setOperands o) = (busStep P legal c l pos s).setOperands o := by
  cases pos with
  | some p => exact busPoll_setOperands ..
  | none =>
    have hconf : (s.setOperands o).status.configured = s.status.configured := rfl
    rw [busStep, busStep, hconf]
    split
    · split
      · exact busBegin_setOperands ..
      · rfl
    · rfl

/-! ### Any command (40 R93) -/

theorem busInit_setOperands (P : Params) (duty : Bool) (l : Latch) (s : State) (o : OperandRegs) :
    busInit P duty l (s.setOperands o) = (busInit P duty l s).setOperands o := by
  unfold busInit
  split <;> rfl

/-- A command's step neither reads nor writes the registers it was accepted with (20 R63, 70 R196). -/
theorem exec_setOperands {i : Instr} {s t : State} (h : exec i s = .next t) (o : OperandRegs) :
    exec i (s.setOperands o) = .next (t.setOperands o) := by
  cases i <;> obtain ⟨l, p, he, rfl⟩ := inExec_next_iff.mp h <;>
    refine (inExec_exec (s := s.setOperands o) he _).trans (congrArg Host.Outcome.next ?_)
  case nop | gotoXY => rfl
  case fill | clear => exact complete_setFb_setOperands ..
  case busInit duty => exact busInit_setOperands ..
  case putc c slot => exact putcStep_setOperands ..
  case puts c slot => exact putsStep_setOperands ..
  case drawPixel | drawLine | drawRect | drawFilledRect | drawTriangle | drawCircle | drawFilledCircle | drawBitmap =>
    exact draw_setOperands ..
  all_goals exact busStep_setOperands ..

/-- Settles O10. -/
theorem runningCommandIgnoresLaterWrites : Obligations.RunningCommandIgnoresLaterWrites :=
  fun _ _ _ a0 a1 a2 f b e d h => exec_setOperands h ⟨a0, a1, a2, f, b, e, d⟩

end Sys2Proof.Machine
end
